-- ==== Sys2Proof/Word.lean ====
section
/-! DEFINITION. The two word types of the block: a byte of a stream or of a frame (R6), and the 32-bit data word of the
host port (R10). -/

namespace Sys2Proof

/-- A byte: 8 bits, unsigned (R6). -/
abbrev Byte := BitVec 8

/-- The data word of a host access, and the width `RTW = DLW = 32` of the two time registers (R5, R10). -/
abbrev Word := BitVec 32

end Sys2Proof
end

