-- ==== Sys2Proof/Config.lean ====
section
/-! DEFINITION. The byte values wired into the block (R5, R154), the OPEN build parameters of R5 as constants without a
value, and the free values: bytes the spec calls unspecified (R32). Nothing can be proved of a constant without a body but
what its type says. -/

namespace Sys2Proof.Config

/-- `PREAMBLE` (R5). -/
def preamble : Byte := 0xFE
/-- `TERM` (R5). -/
def term : Byte := 0xFD
/-- `OPC_FREQ` (R5). -/
def opcFreq : Byte := 0x03
/-- `OPC_ACK` (R5). -/
def opcAck : Byte := 0xFB
/-- `OPC_NAK` (R5). -/
def opcNak : Byte := 0xFA
/-- First byte of `OPC_EXT` (R5); not wired into the block (R154). -/
def opcExt1 : Byte := 0x1A
/-- Second byte of `OPC_EXT` (R5); not wired into the block (R154). -/
def opcExt2 : Byte := 0x05

/-- By how much the build's `LMAX` exceeds 10, the least value R5 allows. OPEN. -/
opaque lmaxExcess : Nat

/-- `LMAX`, the largest span length the build can hold (R5: at least 10). DESIGN CHOICE, log 1: one unknown constant. -/
def lmax : Nat := lmaxExcess + 10

/-- By how many bits a build whose `BMAX` exceeds 255 makes `TX_LEN` wider than the least enough for `0 .. BMAX` (R14).
OPEN, log 2. -/
opaque lenSpare : Nat → Nat

/-- FREE VALUE (U3, R22), log 3: the byte that the `n`th accepted command transmits for element `i` of `TX_BODY` when nothing
has written that element. -/
opaque unwrittenTxByte : (n : Nat) → (i : Nat) → Byte

/-- FREE VALUE (U3, U4, R24), log 4: the byte that the `n`th host read returns for element `i` of bank `bank` when that element
holds no value a program may rely on. -/
opaque unspecifiedRead : (n : Nat) → (bank : Nat) → (i : Nat) → Byte

/-- FREE VALUE (U12, R26), log 5: element `i` of the reader's buffer when nothing has written it. -/
opaque unwrittenBufByte : (i : Nat) → Byte

end Sys2Proof.Config
end

