-- ==== Sys2Proof/Machine/Codec.lean ====
section
/-! DEFINITION. The tests on single bytes that the decoder and the well-formedness of instructions share, the pure functions of
the frame codec and of the classifier (40_encode.md, 42_decode_classify.md), and the reader of 41_sync_read.md as a function of a
byte list (R108). None reads or writes state (R80, R110). -/

namespace Sys2Proof

/-- The byte can stand inside a span: it is not the terminator (R63). -/
def plain (b : Byte) : Bool := b != Config.term

/-- Packed BCD: both nibbles are at most 9 (R145). -/
def isBcd (b : Byte) : Bool := decide (b.toNat / 16 ≤ 9) && decide (b.toNat % 16 ≤ 9)

/-- What follows the opcode byte `1A` in a body of SET_DATE, SET_TIME_HM or SET_TIME_HMS: `05`, sub-code, opcode and four, two or
three BCD bytes (R148, R149). -/
def isSetTail : List Byte → Bool
  | [e, _, _, a, b] => e == Config.opcExt2 && isBcd a && isBcd b
  | [e, _, _, a, b, c] => e == Config.opcExt2 && isBcd a && isBcd b && isBcd c
  | [e, _, _, a, b, c, d] => e == Config.opcExt2 && isBcd a && isBcd b && isBcd c && isBcd d
  | _ => false

/-- The opcode bytes of the classes FREQ, ACK and NAK (R66). -/
def isClassOpcode (op : Byte) : Bool := op == Config.opcFreq || op == Config.opcAck || op == Config.opcNak

end Sys2Proof

namespace Sys2Proof.Machine

/-- A decoded frame: `Frame(to, from, body)` (R110). -/
structure Frame where
  dst : Byte
  src : Byte
  body : List Byte
  deriving DecidableEq, Repr

/-- The class of a well-formed frame (R114). -/
inductive FrameClass where
  | freq
  | ack
  | nak
  | other
  | noopc
  deriving DecidableEq, Repr

/-- How a command ends: the field `RESULT.KIND` (R23, R192). -/
inductive Kind where
  | none
  | data
  | ack
  | nak
  | unexpected
  | timeout
  | malformed
  | sent
  | frame
  deriving DecidableEq, Repr

/-- How one invocation of the reader ends (R90). -/
inductive ReadEnd where
  | frame (f : Frame)
  | malformed
  | timeout
  deriving DecidableEq, Repr

/-- The step of the reader's algorithm: `RS` (R12). -/
inductive ReaderState where
  | hunt1
  | hunt2
  | accum
  deriving DecidableEq, Repr

/-- `encode(to, from, body)` (R80): preamble twice, `to`, `from`, the body, the terminator. Nothing is validated or escaped
(R81). -/
def encodeFrame (dst src : Byte) (body : List Byte) : List Byte :=
  Config.preamble :: Config.preamble :: dst :: src :: (body ++ [Config.term])

/-- `encode(to, from, opcode, payload)`, the form with four operands (R80). -/
def encodeFields (dst src : Byte) (opcode payload : List Byte) : List Byte :=
  encodeFrame dst src (opcode ++ payload)

/-- `decode_span` (R110, R111); `none` is `Malformed`. -/
def decodeSpan : List Byte → Option Frame
  | dst :: src :: body => some ⟨dst, src, body⟩
  | _ => none

/-- `decode` on a whole byte sequence (R112); `none` is `Malformed`. Only the first two bytes and the last are looked at as
markers. -/
def decodeWhole : List Byte → Option Frame
  | p :: q :: rest =>
      if p = Config.preamble ∧ q = Config.preamble ∧ rest.getLast? = some Config.term then decodeSpan rest.dropLast else none
  | _ => none

/-- `class(f)` (R114): only the first byte of the body is read (R115). -/
def classify (f : Frame) : FrameClass :=
  match f.body with
  | [] => .noopc
  | op :: _ =>
      if op = Config.opcFreq then .freq
      else if op = Config.opcAck then .ack
      else if op = Config.opcNak then .nak
      else .other

/-- `terminal(k, EXPECT)` (R116): bit 0 `X_DATA`, bit 1 `X_ACK`, bit 2 `X_NAK` (R18). -/
def terminal (k : FrameClass) (expect : BitVec 3) : Bool :=
  match k with
  | .freq => expect.getLsbD 0
  | .ack => expect.getLsbD 1
  | .nak => expect.getLsbD 2
  | .other => false
  | .noopc => false

/-- `outcome_of(k)` (R116); OTHER and NOOPC have none. -/
def outcomeOf : FrameClass → Option Kind
  | .freq => some .data
  | .ack => some .ack
  | .nak => some .nak
  | .other => none
  | .noopc => none

/-- The outcomes that carry a frame (R191). -/
def Kind.carriesFrame : Kind → Bool
  | .data => true
  | .unexpected => true
  | .frame => true
  | .none => false
  | .ack => false
  | .nak => false
  | .timeout => false
  | .malformed => false
  | .sent => false

/-- The code of `RESULT.KIND` (R23). -/
def Kind.code : Kind → BitVec 4
  | .none => 0
  | .data => 1
  | .ack => 2
  | .nak => 3
  | .unexpected => 4
  | .timeout => 5
  | .malformed => 6
  | .sent => 7
  | .frame => 8

/-- The code of `RESULT.CLASS` (R23, R114); `none` is the register's NONE. -/
def classCode : Option FrameClass → BitVec 3
  | Option.none => 0
  | some .freq => 1
  | some .ack => 2
  | some .nak => 3
  | some .other => 4
  | some .noopc => 5

/-- What `ReadFrame()` has made of the bytes of a stream (R108). -/
inductive ReadTrace where
  /-- The invocation ended: with which result, whether the buffer overflowed, and the bytes left unread. -/
  | ended (r : ReadEnd) (overflow : Bool) (rest : List Byte)
  /-- The bytes ran out: where the reader stands and what it has accumulated. -/
  | pending (rs : ReaderState) (acc : List Byte)
  deriving DecidableEq, Repr

/-- The result of a delimited span (R98). -/
def spanEnd (span : List Byte) : ReadEnd :=
  match decodeSpan span with
  | some f => .frame f
  | none => .malformed

/-- The pseudocode of R108 as a function of a byte list: `ReadFrame()` from step `rs` with `acc` accumulated, while every
`RxRead` returns a byte. -/
def readFrom (lmax : Nat) : ReaderState → List Byte → List Byte → ReadTrace
  | rs, acc, [] => .pending rs acc
  | .hunt1, acc, b :: bs => readFrom lmax (if b = Config.preamble then .hunt2 else .hunt1) acc bs
  | .hunt2, acc, b :: bs => readFrom lmax (if b = Config.preamble then .accum else .hunt1) acc bs
  | .accum, acc, b :: bs =>
      if b = Config.term then .ended (spanEnd acc) false bs
      else if acc.length < lmax then readFrom lmax .accum (acc ++ [b]) bs
      else .ended .malformed true bs

/-- `ReadFrame()` on a byte list (R90, R91). -/
def readFrame (lmax : Nat) (bytes : List Byte) : ReadTrace := readFrom lmax .hunt1 [] bytes

end Sys2Proof.Machine
end

