-- ==== Sys2Proof/Machine/Memory.lean ====
section
/-! DEFINITION. The byte buffers (TX_BODY, RES_BODY, BUF): a list of (address, byte) pairs in one canonical form, addresses
strictly rising. An unlisted address holds no value (R32): whoever reads it says which free value stands there. -/

namespace Sys2Proof.Machine

/-- A byte buffer: its written bytes by index. -/
abbrev Memory := List Host.Cell

/-- The canonical form: addresses strictly rising. No entry can equal what an unlisted address reads as, since that is no
value. -/
def Memory.wf : Memory → Bool
  | [] => true
  | [_] => true
  | (a, _) :: (b, y) :: rest => decide (a < b) && Memory.wf ((b, y) :: rest)

/-- The byte at `a`, or nothing when no byte was ever written there. -/
def Memory.read? (m : Memory) (a : Nat) : Option Byte :=
  match m with
  | [] => none
  | (b, x) :: rest => if a = b then some x else Memory.read? rest a

/-- The buffer with byte `v` at `a`. -/
def Memory.write (m : Memory) (a : Nat) (v : Byte) : Memory :=
  match m with
  | [] => [(a, v)]
  | (b, x) :: rest =>
      if a < b then (a, v) :: (b, x) :: rest
      else if a = b then (a, v) :: rest
      else (b, x) :: Memory.write rest a v

/-- The buffer with the bytes of the list at `a`, `a + 1`, … -/
def Memory.writeList (m : Memory) (a : Nat) : List Byte → Memory
  | [] => m
  | v :: vs => Memory.writeList (m.write a v) (a + 1) vs

/-- The bytes at `a`, …, `a + n - 1`, an unlisted one read as `free` gives it. -/
def Memory.slice (m : Memory) (free : Nat → Byte) (a : Nat) : Nat → List Byte
  | 0 => []
  | n + 1 => (m.read? a).getD (free a) :: Memory.slice m free (a + 1) n

end Sys2Proof.Machine
end

