-- ==== Sys2Proof/Syntax.lean ====
section
/-! DEFINITION. The instructions, one constructor per row of spec/opcode_table.json, and the two forms in which one reaches the
block: a word written to `CMD` (R69) or bytes on the receive stream (R60). -/

namespace Sys2Proof

/-- One constructor per row of the opcode table. The first five are host commands (format CMD, R69 and R70); the other ten
are what the two preamble bytes and a terminator can delimit on the wire (format CIV_FRAME, R60 to R67). `dst` and `src` are
the frame's address bytes `to` and `from`. -/
inductive Instr where
  /-- NOP, code 000 (R86). -/
  | nop
  /-- SEND, code 001 (R84). -/
  | send
  /-- RDF, code 010 (R104). -/
  | rdf
  /-- XACT, code 011 (R125). -/
  | xact
  /-- CMD_RESERVED, codes 1xx (R70); `lo` is bits 1:0 of the code. -/
  | cmdReserved (lo : BitVec 2)
  /-- FREQ_QUERY (R146): body `03`. -/
  | freqQuery (dst src : Byte)
  /-- FREQ_REPORT (R147): body `03` and a payload, 5 bytes from a radio; the block accepts any length (R115). -/
  | freqReport (dst src : Byte) (payload : List Byte)
  /-- SET_DATE (R148): body `1A 05 sub op yyHi yyLo mm dd`. -/
  | setDate (dst src sub op yyHi yyLo mm dd : Byte)
  /-- SET_TIME_HM (R149, profile without seconds): body `1A 05 sub op hh mm`. -/
  | setTimeHM (dst src sub op hh mm : Byte)
  /-- SET_TIME_HMS (R149, profile with seconds): body `1A 05 sub op hh mm ss`. -/
  | setTimeHMS (dst src sub op hh mm ss : Byte)
  /-- ACK (R150): body `FB`; extra bytes do not change the class (R115). -/
  | ack (dst src : Byte) (extra : List Byte)
  /-- NAK (R151): body `FA`; extra bytes do not change the class (R115). -/
  | nak (dst src : Byte) (extra : List Byte)
  /-- OTHER (R152): the default row, any other opcode byte `op` and what follows it. -/
  | other (dst src op : Byte) (rest : List Byte)
  /-- NOOPC (R114): `to`, `from` and an empty body. -/
  | noopc (dst src : Byte)
  /-- UNDERSIZED (R111): a span of no byte or of one byte. -/
  | undersized (x : Option Byte)
  deriving DecidableEq, Repr

/-- An instruction as it reaches the block. -/
inductive Image where
  /-- The data word of a host write to `CMD`; bits 31:3 are ignored (R69). -/
  | cmd (w : Word)
  /-- Consecutive bytes of the receive stream, in wire order (R44). -/
  | wire (bytes : List Byte)
  deriving DecidableEq, Repr

end Sys2Proof
end

