-- ==== Sys2Proof/Machine/State.lean ====
section
/-! DEFINITION. The state: every register and hidden element of 10_state.md, the build's `LMAX`, and the model's own fields
(the environment's stimuli, the two byte streams, the block's own delays, three counters). Plain data. -/

namespace Sys2Proof.Machine

/-- Reasons the machine stops with a fault. There is none: every host mistake is a sticky flag and every failure an outcome
code (R190, R209), no address faults (a reserved register number reads 0, R13). -/
inductive Fault where
  deriving DecidableEq, Repr

/-- Reasons the machine has no meaning for an instruction. -/
inductive Refusal where
  /-- An arm of `exec` that has no meaning yet (no arm has none). Safe: the run stops. -/
  | notModelled (mnemonic : String)
  deriving DecidableEq, Repr

/-- `CUROP` (R12). -/
inductive CurOp where
  | none
  | send
  | rdf
  | xact
  deriving DecidableEq, Repr

/-- `OPST` (R12). -/
inductive OpState where
  | idle
  | tx
  | rd
  deriving DecidableEq, Repr

/-- The five flags of `STATUS` (R17). -/
structure Status where
  busy : Bool
  done : Bool
  uxseen : Bool
  ovf : Bool
  cmderr : Bool
  deriving DecidableEq, Repr

/-- The fields of `RESULT` (R23); `cls = none` is CLASS NONE. -/
structure ResultReg where
  kind : Kind
  cls : Option FrameClass
  valid : Bool
  deriving DecidableEq, Repr

/-- A register number: the pair (bank, index) (R14). -/
structure RegNum where
  bank : Nat
  index : Nat
  deriving DecidableEq, Repr

/-- A step of the sequencer that the block has come to and not yet taken (R206): ticks may pass before it (R234). -/
inductive Due where
  /-- The reader invocation has returned; what RDF or XACT does with it comes next (R104, R127). -/
  | returned (r : ReadEnd)
  /-- The deadline check of XACT comes next (R132). -/
  | check
  /-- The last byte of a SEND has been accepted; its outcome comes next (R84). -/
  | sent
  deriving DecidableEq, Repr

/-- One thing that the host, the transport, the time base or the platform does (R9), or that the build does in its own time (R234). -/
inductive Stimulus where
  /-- The host writes `data` to a register (R13); a write to `CMD` is a host command. -/
  | write (reg : RegNum) (data : Word)
  /-- The host reads a register (R13). -/
  | read (reg : RegNum)
  /-- The transport receives these bytes and offers them, in order (R42, R43). -/
  | rx (bytes : List Byte)
  /-- A cycle in which the transport offers no byte (R42(b)). -/
  | quiet
  /-- The transport accepts the byte offered to it (R41, R87). -/
  | txReady
  /-- A tick of the time base (R206). -/
  | tick
  /-- A tick that falls into one of the block's own delays between two byte accesses, which `RTCNT` does not measure (R234). -/
  | lagTick
  /-- From now on the block spends time before the steps of `Due`, or spends none (R234, log 28). -/
  | lags (on : Bool)
  /-- The block takes the step that is due (R206, R234). -/
  | settle
  /-- The reset input (R220). -/
  | reset
  deriving DecidableEq, Repr

/-- The state of the block, of the build, and of the model's environment. -/
structure State where
  /-- R5: the build's `LMAX`; no step changes it (log 1). -/
  lmax : Nat
  /-- R12. -/
  curop : CurOp
  /-- R12. -/
  opst : OpState
  /-- R12. -/
  rs : ReaderState
  /-- `TXIDX`, R29. -/
  txidx : Nat
  /-- `CTRL.IE`, R16. -/
  ie : Bool
  /-- R17. -/
  status : Status
  /-- `EXPECT`, R18. -/
  expect : BitVec 3
  /-- R19. -/
  rdtmo : Word
  /-- R20. -/
  deadline : Word
  /-- `TX_TO`, R21. -/
  txTo : Byte
  /-- `TX_FROM`, R21. -/
  txFrom : Byte
  /-- `TX_LEN`, R21. -/
  txLen : Nat
  /-- `TX_BODY`, R22. -/
  txBody : Memory
  /-- `RESULT`, R23. -/
  result : ResultReg
  /-- `RES_TO`, R24. -/
  resTo : Byte
  /-- `RES_FROM`, R24. -/
  resFrom : Byte
  /-- `RES_LEN`, R24. -/
  resLen : Nat
  /-- `RES_BODY`, R24. -/
  resBody : Memory
  /-- R25. -/
  malcnt : Byte
  /-- `BUF`, R26. -/
  buf : Memory
  /-- `BLEN`, R26. -/
  blen : Nat
  /-- `DLCNT`, R27. -/
  dlcnt : Word
  /-- `RTCNT`, R28. -/
  rtcnt : Word
  /-- The output `h_rdata`: what the last host read returned (R10, log 6). -/
  hRdata : Word
  /-- MODEL: the block spends time before each step of `Due` (R234, log 28). -/
  lags : Bool
  /-- MODEL: the step of the sequencer that is due (R206, log 28). -/
  due : Option Due
  /-- MODEL: what the host, the transport, the time base and the platform do next, in order (R9, log 8). -/
  inbox : List Stimulus
  /-- MODEL: the bytes the transport has received and the block has not taken (R43, log 12). -/
  rxq : List Byte
  /-- MODEL: the transmit stream, every byte put so far, the oldest first (R41, log 12). -/
  tx : List Byte
  /-- MODEL: the ticks so far (R206, log 13). -/
  ticks : Nat
  /-- MODEL: how many commands were accepted, the argument of `Config.unwrittenTxByte` (log 3). -/
  cmdCount : Nat
  /-- MODEL: how many host reads were made, the argument of `Config.unspecifiedRead` (log 4). -/
  readCount : Nat
  deriving DecidableEq, Repr

/-- The machine right after reset (R31), with nothing placed in the environment's fields. -/
def State.reset : State where
  lmax := Config.lmax
  curop := .none
  opst := .idle
  rs := .hunt1
  txidx := 0
  ie := false
  status := ⟨false, false, false, false, false⟩
  expect := 0
  rdtmo := 0
  deadline := 0
  txTo := 0
  txFrom := 0
  txLen := 0
  txBody := []
  result := ⟨.none, none, false⟩
  resTo := 0
  resFrom := 0
  resLen := 0
  resBody := []
  malcnt := 0
  buf := []
  blen := 0
  dlcnt := 0
  rtcnt := 0
  hRdata := 0
  lags := false
  due := none
  inbox := []
  rxq := []
  tx := []
  ticks := 0
  cmdCount := 0
  readCount := 0

end Sys2Proof.Machine
end

