-- ==== Sys2Proof/Machine/Flags.lean ====
section
/-! DEFINITION. The words of the flag and result registers and the counters' arithmetic: `STATUS` (R17), `RESULT` (R23), the
interrupt (R199), the saturating counters (R33). -/

namespace Sys2Proof.Machine

/-- Bit 0 of a word from a flag. -/
def bit (b : Bool) : Word := if b then 1 else 0

/-- `STATUS` as the host reads it (R17): BUSY, DONE, UXSEEN, OVF, CMDERR in bits 0 to 4. -/
def Status.word (f : Status) : Word :=
  bit f.busy ||| bit f.done <<< 1 ||| bit f.uxseen <<< 2 ||| bit f.ovf <<< 3 ||| bit f.cmderr <<< 4

/-- A host write to `STATUS` (R17): bits 1, 3 and 4 are write-1-to-clear, the others read-only. -/
def Status.writeOneToClear (f : Status) (d : Word) : Status :=
  { f with done := f.done && !d.getLsbD 1, ovf := f.ovf && !d.getLsbD 3, cmderr := f.cmderr && !d.getLsbD 4 }

/-- `RESULT` as the host reads it (R23): KIND in bits 3:0, CLASS in bits 6:4, VALID in bit 7. -/
def ResultReg.word (r : ResultReg) : Word :=
  r.kind.code.setWidth 32 ||| (classCode r.cls).setWidth 32 <<< 4 ||| bit r.valid <<< 7

/-- `RESULT = 0` (R23): KIND NONE, CLASS NONE, not VALID. -/
def ResultReg.cleared : ResultReg := ⟨.none, none, false⟩

/-- A malformed frame is counted: `MALCNT` plus 1, stopping at 255 (R25, R33(b)). -/
def satInc (b : Byte) : Byte := if b = 255 then 255 else b + 1

/-- A timer at a tick: minus 1, stopping at 0 (R27, R28, R33(a)). -/
def satDec (w : Word) : Word := if w = 0 then 0 else w - 1

/-- `elapsed()` (R128). -/
def State.elapsed (s : State) : Bool := s.dlcnt = 0

/-- The output `irq` (R199). -/
def State.irq (s : State) : Bool := s.status.done && s.ie

end Sys2Proof.Machine
end

