-- ==== Sys2Proof/Machine/Operands.lean ====
section
/-! DEFINITION. The operands of the commands and of the host accesses: the frame in the transmit registers (R65), the
accumulated span (R98), the outputs towards the transport (R87, R107), and the register numbers (R14). -/

namespace Sys2Proof.Machine

/-- `BMAX = LMAX - 2` (R5). -/
def State.bmax (s : State) : Nat := s.lmax - 2

/-- The body in the transmit registers: `TX_BODY[0 .. TX_LEN-1]` (R22); a never-written element is a free value (U3). -/
def State.txBodyBytes (s : State) : List Byte := s.txBody.slice (Config.unwrittenTxByte s.cmdCount) 0 s.txLen

/-- The frame that SEND and XACT emit: `encode(TX_TO, TX_FROM, TX_BODY[0 .. TX_LEN-1])` (R65, R84). -/
def State.txFrame (s : State) : List Byte := encodeFrame s.txTo s.txFrom s.txBodyBytes

/-- The span accumulated so far: `BUF[0 .. BLEN-1]` (R26, R98). -/
def State.span (s : State) : List Byte := s.buf.slice Config.unwrittenBufByte 0 s.blen

/-- The body of the frame in the result frame registers: `RES_BODY[0 .. RES_LEN-1]` (R24). -/
def State.resBodyBytes (s : State) : List Byte := s.resBody.slice (Config.unspecifiedRead s.readCount 2) 0 s.resLen

/-- The frame in the result frame registers (R24), meaningful while `RESULT.VALID = 1`. -/
def State.resFrame (s : State) : Frame := ⟨s.resTo, s.resFrom, s.resBodyBytes⟩

/-- A byte of the frame is being put (R87): in `TX`, and not past the last byte. -/
abbrev State.putting (s : State) : Prop := s.opst = .tx ∧ s.due = none

/-- A byte read is pending (R42): in `RD`, and the invocation has not returned. -/
abbrev State.reading (s : State) : Prop := s.opst = .rd ∧ s.due = none

/-- The output `tx_valid` (R87). -/
def State.txValid (s : State) : Bool := s.putting

/-- The output `tx_data` while `tx_valid` is high: `w[TXIDX]` (R87). -/
def State.txData (s : State) : Option Byte := if s.putting then s.txFrame[s.txidx]? else none

/-- The output `rx_ready`: a byte read is pending (R107). -/
def State.rxReady (s : State) : Bool := s.reading

/-- A pending read has used up its timeout and no byte is offered (R42(b)). -/
def State.expired (s : State) : Bool := decide s.reading && decide (s.rtcnt = 0) && s.rxq.isEmpty

/-- The host registers by name (R14). -/
inductive Reg where
  | cmd
  | ctrl
  | status
  | expect
  | rdtmo
  | deadline
  | txTo
  | txFrom
  | txLen
  | result
  | resTo
  | resFrom
  | resLen
  | malcnt
  | txBody (i : Nat)
  | resBody (i : Nat)
  | reserved
  deriving DecidableEq, Repr

/-- Bank 0 (the table of R14). -/
def Reg.ofBank0 : Nat → Reg
  | 0x00 => .cmd
  | 0x01 => .ctrl
  | 0x02 => .status
  | 0x03 => .expect
  | 0x04 => .rdtmo
  | 0x05 => .deadline
  | 0x06 => .txTo
  | 0x07 => .txFrom
  | 0x08 => .txLen
  | 0x09 => .result
  | 0x0A => .resTo
  | 0x0B => .resFrom
  | 0x0C => .resLen
  | 0x0D => .malcnt
  | _ => .reserved

/-- Which register a number names (R14): bank 0 the table, bank 1 `TX_BODY`, bank 2 `RES_BODY`, every other number reserved. -/
def Reg.ofNum (bmax : Nat) (r : RegNum) : Reg :=
  match r.bank with
  | 0 => Reg.ofBank0 r.index
  | 1 => if r.index < bmax then .txBody r.index else .reserved
  | 2 => if r.index < bmax then .resBody r.index else .reserved
  | _ => .reserved

/-- The flat number `bank * 0x1000 + index` of the port `h_addr` as a pair (R10, R14). -/
def RegNum.ofFlat (a : BitVec 14) : RegNum := ⟨a.toNat / 0x1000, a.toNat % 0x1000⟩

/-- The number of `CMD` (R15). -/
def RegNum.cmd : RegNum := ⟨0, 0⟩

/-- The width of `TX_LEN` in bits: enough for `0 .. BMAX`, 8 when `BMAX <= 255` (R14). Above that the build chooses (log 2). -/
def lenWidth (bmax : Nat) : Nat := if bmax ≤ 255 then 8 else bmax.log2 + 1 + Config.lenSpare bmax

end Sys2Proof.Machine
end

