-- ==== Sys2Proof/Machine/Ops.lean ====
section
/-! DEFINITION. The shared operations: refusing and accepting a command (R84, R104, R126, R209), raising an outcome (R191), the
transmit side (R87), the reader (R91 to R101), the deadline check (R132), the block's own delays (R206, R234), time (R27, R28, R42),
reset (R220). -/

namespace Sys2Proof.Machine

/-! ### Commands: refusal and acceptance -/

/-- A host mistake: the sticky flag `CMDERR` and nothing else (R209). -/
def cmdError (s : State) : State := { s with status := { s.status with cmderr := true } }

/-- What the acceptance of SEND, RDF and XACT has in common (the lines `accept` of R84 and R104, and R126). The free values of
the new command are drawn afresh (log 3). -/
def acceptCommand (op : CurOp) (s : State) : State :=
  { s with
    status := { s.status with busy := true, done := false, uxseen := false }
    malcnt := 0
    result := ResultReg.cleared
    resTo := 0
    resFrom := 0
    resLen := 0
    curop := op
    cmdCount := s.cmdCount + 1 }

/-! ### Raising an outcome -/

/-- What an outcome carries (R191). -/
inductive Info where
  /-- No frame: ACK, NAK, TIMEOUT, MALFORMED, SENT. -/
  | nothing
  /-- This frame: DATA, FRAME. -/
  | frame (f : Frame)
  /-- The frame already recorded in the result frame registers: UNEXPECTED. -/
  | recorded
  deriving DecidableEq, Repr

/-- A frame into the result frame registers, `VALID` and `CLASS` with it (R131, R191). -/
def latchFrame (f : Frame) (s : State) : State :=
  { s with
    resTo := f.dst
    resFrom := f.src
    resLen := f.body.length
    resBody := s.resBody.writeList 0 f.body
    result := { s.result with cls := some (classify f), valid := true } }

/-- No frame: the result frame registers 0, `VALID` 0, `CLASS` NONE (R191). -/
def clearFrame (s : State) : State :=
  { s with resTo := 0, resFrom := 0, resLen := 0, result := { s.result with cls := none, valid := false } }

/-- `raise K(info)` (R191), the block's only form of exception (R190): the result registers, then the sequencer idle, `BUSY` 0,
`DONE` 1. How long after the command's last event it comes is the environment's choice (R234, `orLater`). -/
def raise (k : Kind) (info : Info) (s : State) : State :=
  let t := match info with
    | .nothing => clearFrame s
    | .frame f => latchFrame f s
    | .recorded => s
  { t with
    result := { t.result with kind := k }
    curop := .none
    opst := .idle
    status := { t.status with busy := false, done := true } }

/-! ### The block's own delays -/

/-- A step of the sequencer that comes next: at once, or, in a block that spends time before it, when the stimulus `settle` comes
(R206: any number of ticks may pass before it). DESIGN CHOICE, log 28: which of the two is the environment's choice. -/
def orLater (a : Due) (now : State → State) (s : State) : State := if s.lags then { s with due := some a } else now s

/-! ### The reader -/

/-- The start of a byte read: `RTCNT <- RDTMO` (R42). -/
def startRead (s : State) : State := { s with rtcnt := s.rdtmo }

/-- The start of a reader invocation (R91) and of its first byte read. -/
def startInvocation (s : State) : State := startRead { s with opst := .rd, rs := .hunt1, blen := 0 }

/-- A malformed frame is counted (R25, R100, R111). -/
def countMalformed (s : State) : State := { s with malcnt := satInc s.malcnt }

/-- A non-terminal frame is recorded (R131). -/
def recordUnexpected (f : Frame) (s : State) : State :=
  let t := latchFrame f s
  { t with status := { t.status with uxseen := true } }

/-- The deadline check (R132): the next reader invocation, or the end of the transaction. -/
def deadlineCheck (s : State) : State :=
  if s.elapsed then
    (if s.status.uxseen then raise .unexpected .recorded s else raise .timeout .nothing s)
  else startInvocation s

/-- A terminal frame ends the transaction (R130). -/
def raiseTerminal (f : Frame) (s : State) : State :=
  match outcomeOf (classify f) with
  | some k => raise k (if k.carriesFrame then .frame f else .nothing) s
  | none => s

/-- The deadline check comes next, at once or later (R206, R234). -/
def checkNext (s : State) : State := orLater .check deadlineCheck s

/-- What XACT does with a returned reader invocation (the loop of R127, R130 to R134). -/
def xactInvocationEnd (r : ReadEnd) (s : State) : State :=
  match r with
  | .frame f => if terminal (classify f) s.expect then raiseTerminal f s else checkNext (recordUnexpected f s)
  | .malformed => checkNext s
  | .timeout => checkNext s

/-- What RDF does with its reader invocation (the lines `finish` of R104). -/
def rdfInvocationEnd (r : ReadEnd) (s : State) : State :=
  match r with
  | .frame f => raise .frame (.frame f) s
  | .malformed => raise .malformed .nothing s
  | .timeout => raise .timeout .nothing s

/-- The running command goes on with what its reader invocation returned (R104, R127). Only RDF and XACT run the reader. -/
def invocationEnd (r : ReadEnd) (s : State) : State :=
  match s.curop with
  | .rdf => rdfInvocationEnd r s
  | .xact => xactInvocationEnd r s
  | .none => s
  | .send => s

/-- A reader invocation returns; the running command goes on, at once or later (R206, R234). -/
def invocationReturns (r : ReadEnd) (s : State) : State := orLater (.returned r) (invocationEnd r) s

/-- The terminator in `ACCUM` (R98): the span is decoded, and counted as malformed when it is shorter than 2 (R111). -/
def spanComplete (s : State) : State :=
  match decodeSpan s.span with
  | some f => invocationReturns (.frame f) s
  | none => invocationReturns .malformed (countMalformed s)

/-- The buffer overflows (R100). -/
def bufferOverflow (s : State) : State :=
  invocationReturns .malformed (countMalformed { s with status := { s.status with ovf := true } })

/-- A byte is accumulated (R99). -/
def accumulate (b : Byte) (s : State) : State := { s with buf := s.buf.write s.blen b, blen := s.blen + 1 }

/-- `RxRead() = Byte(b)` in each step of the reader (the byte columns of the table of R108); an invocation that goes on starts
its next byte read. -/
def readByte (b : Byte) (s : State) : State :=
  match s.rs with
  | .hunt1 => startRead (if b = Config.preamble then { s with rs := .hunt2 } else s)
  | .hunt2 => startRead (if b = Config.preamble then { s with rs := .accum } else { s with rs := .hunt1 })
  | .accum =>
      if b = Config.term then spanComplete s
      else if s.blen < s.lmax then startRead (accumulate b s)
      else bufferOverflow s

/-- `RxRead() = NoData`: the invocation ends with `Timeout` in every step (R94, R97, R101). -/
def readNoData (s : State) : State := invocationReturns .timeout s

/-! ### The receive stream -/

/-- The block takes bytes, in order, for as long as a byte read is pending; the others stay in the transport (R43, R107). -/
def takeBytes : List Byte → State → State
  | [], s => { s with rxq := [] }
  | b :: bs, s => if s.reading then takeBytes bs (readByte b s) else { s with rxq := b :: bs }

/-- The block takes what the transport holds. -/
def takeHeld (s : State) : State := takeBytes s.rxq s

/-- Bytes arrive at the transport; the block takes what it reads of them at once (R42(a), R43). -/
def arrive (bytes : List Byte) (s : State) : State := takeHeld { s with rxq := s.rxq ++ bytes }

/-- A cycle in which no byte is offered: a read whose timeout is used up ends with `NoData` (R42(b)). -/
def quietCycle (s : State) : State := if s.expired then readNoData s else s

/-! ### The transmit side -/

/-- SEND ends with SENT (R84). -/
def raiseSent (s : State) : State := raise .sent .nothing s

/-- The last byte of the frame has been accepted (R87): SEND ends with SENT, at once or later (R206, R234), XACT goes on to read
(R129). -/
def leaveTx (s : State) : State :=
  match s.curop with
  | .send => orLater .sent raiseSent s
  | .xact => takeHeld (startInvocation s)
  | .none => s
  | .rdf => s

/-- The transport accepts the offered byte (R41, R87). -/
def txAccept (s : State) : State :=
  match s.txData with
  | some b =>
      let t := { s with tx := s.tx ++ [b], txidx := s.txidx + 1 }
      if t.txidx = s.txFrame.length then leaveTx t else t
  | none => s

/-! ### The step that is due -/

/-- The step of the sequencer that was due. -/
def perform (a : Due) (s : State) : State :=
  match a with
  | .returned r => invocationEnd r s
  | .check => deadlineCheck s
  | .sent => raiseSent s

/-- The block takes the step that is due (R206); where a byte read starts with it, the block takes what the transport holds. -/
def settle (s : State) : State :=
  match s.due with
  | some a => takeHeld (perform a { s with due := none })
  | none => s

/-! ### Time -/

/-- A tick for the deadline counter, which runs while an XACT runs (R27). -/
def tickDeadline (s : State) : State :=
  { s with ticks := s.ticks + 1, dlcnt := if s.curop = .xact then satDec s.dlcnt else s.dlcnt }

/-- A tick for the read-timeout counter, which runs while a byte read is pending (R28). -/
def tickRead (s : State) : State := { s with rtcnt := if s.reading then satDec s.rtcnt else s.rtcnt }

/-- A tick (R206). A read whose timeout is used up has ended before time goes on, so that `NoData` comes after exactly `RDTMO`
ticks (R42, log 11). -/
def tickAll (s : State) : State := tickRead (tickDeadline (quietCycle s))

/-- A tick that falls between two byte accesses of the block: `DLCNT` measures it, `RTCNT` does not (R234). A read that has
already counted ticks is pending, and the tick is then an ordinary one (log 10). -/
def tickLag (s : State) : State := if s.reading ∧ s.rtcnt ≠ s.rdtmo then tickAll s else tickDeadline s

/-! ### Reset -/

/-- Reset (R220, R221): every element of the block at its reset value; the build and the environment stay, the unread bytes and
the bytes already sent among them. -/
def resetBlock (s : State) : State :=
  { State.reset with
    lmax := s.lmax
    lags := s.lags
    inbox := s.inbox
    rxq := s.rxq
    tx := s.tx
    ticks := s.ticks
    cmdCount := s.cmdCount
    readCount := s.readCount }

end Sys2Proof.Machine
end

