-- ==== Sys2Proof/Machine/HostPort.lean ====
section
/-! DEFINITION. Host accesses to the registers (R13 to R25). A write to `CMD` is an instruction: `Fetch.lean` hands it to
`exec`. -/

namespace Sys2Proof.Machine

/-- What a host read returns (R13(a), R14 to R25): the register zero-extended; `CMD` and reserved numbers read 0; a byte of
`TX_BODY` never written and a byte of `RES_BODY` outside the valid frame are free values (U3, U4). DESIGN CHOICE, log 27: a `TX_LEN`
or `RES_LEN` of 2^32 or more, which a build with so large an `LMAX` can hold, reads as its low 32 bits. -/
def readValue (r : Reg) (s : State) : Word :=
  match r with
  | .cmd => 0
  | .ctrl => bit s.ie
  | .status => s.status.word
  | .expect => s.expect.setWidth 32
  | .rdtmo => s.rdtmo
  | .deadline => s.deadline
  | .txTo => s.txTo.setWidth 32
  | .txFrom => s.txFrom.setWidth 32
  | .txLen => BitVec.ofNat 32 s.txLen
  | .result => s.result.word
  | .resTo => s.resTo.setWidth 32
  | .resFrom => s.resFrom.setWidth 32
  | .resLen => BitVec.ofNat 32 s.resLen
  | .malcnt => s.malcnt.setWidth 32
  | .txBody i => ((s.txBody.read? i).getD (Config.unspecifiedRead s.readCount 1 i)).setWidth 32
  | .resBody i =>
      let free := Config.unspecifiedRead s.readCount 2 i
      (if s.result.valid ∧ i < s.resLen then (s.resBody.read? i).getD free else free).setWidth 32
  | .reserved => 0

/-- A host read (R13(a)): nothing of the block changes but its output `h_rdata` (R10). -/
def hostRead (n : RegNum) (s : State) : State :=
  { s with hRdata := readValue (Reg.ofNum s.bmax n) s, readCount := s.readCount + 1 }

/-- The effect of a host write made while idle (R13(c)), on each register (R15 to R25); a read-only register and a reserved
number ignore it (R13(d)), and so does each register the bits above its width (R13(e)). DESIGN CHOICE, log 29: a `TX_LEN` wider than
the 32 bits of a written word, in a build with so large a `BMAX`, gets the word zero-extended. -/
def writeReg (r : Reg) (d : Word) (s : State) : State :=
  match r with
  | .cmd => s
  | .ctrl => { s with ie := d.getLsbD 0 }
  | .status => { s with status := s.status.writeOneToClear d }
  | .expect => { s with expect := d.setWidth 3 }
  | .rdtmo => { s with rdtmo := d }
  | .deadline => { s with deadline := d }
  | .txTo => { s with txTo := d.setWidth 8 }
  | .txFrom => { s with txFrom := d.setWidth 8 }
  | .txLen => { s with txLen := d.toNat % 2 ^ lenWidth s.bmax }
  | .result => s
  | .resTo => s
  | .resFrom => s
  | .resLen => s
  | .malcnt => s
  | .txBody i => { s with txBody := s.txBody.write i (d.setWidth 8) }
  | .resBody _ => s
  | .reserved => s

/-- A host write to a register other than `CMD`: ignored while a command runs (R13(b)). -/
def hostWrite (n : RegNum) (d : Word) (s : State) : State :=
  if s.status.busy then s else writeReg (Reg.ofNum s.bmax n) d s

/-- A stimulus that is no instruction takes effect; so do raw bytes that are not one instruction (R46). -/
def deliver (e : Stimulus) (s : State) : State :=
  match e with
  | .write n d => hostWrite n d s
  | .read n => hostRead n s
  | .rx bytes => arrive bytes s
  | .quiet => quietCycle s
  | .txReady => txAccept s
  | .tick => tickAll s
  | .lagTick => tickLag s
  | .lags on => { s with lags := on }
  | .settle => settle s
  | .reset => resetBlock s

/-- The stimuli of the transport and of the time base, which a running command consumes; a host access, a reset and what the build
does in its own time are steps of their own. -/
def Stimulus.isTransport : Stimulus → Bool
  | .write _ _ => false
  | .read _ => false
  | .rx _ => true
  | .quiet => true
  | .txReady => true
  | .tick => true
  | .lagTick => true
  | .lags _ => false
  | .settle => false
  | .reset => false

/-- The running command goes on with what the transport and the time base do next, up to its outcome, to the next host access,
reset, `lags` or `settle`, or to the end of what the environment holds (log 9). -/
def drive : List Stimulus → State → State
  | [], s => { s with inbox := [] }
  | e :: es, s =>
      if s.status.busy = true ∧ e.isTransport = true then drive es (deliver e s) else { s with inbox := e :: es }

/-- The running command goes on with the environment's stimuli. -/
def runCommand (s : State) : State := drive s.inbox s

end Sys2Proof.Machine
end

