-- ==== Sys2Proof/Machine/Commands.lean ====
section
/-! DEFINITION. The meanings of the host commands: NOP (R86), SEND (R84, R85), RDF (R104), XACT (R125 to R140) and the reserved
codes (R70). A command written while another runs sets `CMDERR` and nothing else (R13(b)). -/

namespace Sys2Proof.Machine

/-- The acceptance of SEND (R84). -/
def acceptSend (s : State) : State := { acceptCommand .send s with opst := .tx, txidx := 0 }

/-- The acceptance of RDF (R104) and the start of its reader invocation. -/
def acceptRdf (s : State) : State := takeHeld (startInvocation (acceptCommand .rdf s))

/-- The acceptance of XACT (R126). -/
def acceptXact (s : State) : State := { acceptCommand .xact s with opst := .tx, txidx := 0, dlcnt := s.deadline }

/-- The precondition that SEND and XACT share (R84, R85, R126). -/
def State.sendable (s : State) : Bool := !s.status.busy && decide (s.txLen ≤ s.bmax)

/-- NOP (R86). -/
def execNop (s : State) : Host.Outcome State Fault Refusal :=
  .next (if s.status.busy then cmdError s else s)

/-- SEND (R84, R85). -/
def execSend (s : State) : Host.Outcome State Fault Refusal :=
  .next (if s.sendable then runCommand (acceptSend s) else cmdError s)

/-- RDF (R104). -/
def execRdf (s : State) : Host.Outcome State Fault Refusal :=
  .next (if s.status.busy then cmdError s else runCommand (acceptRdf s))

/-- XACT (R125 to R134). -/
def execXact (s : State) : Host.Outcome State Fault Refusal :=
  .next (if s.sendable then runCommand (acceptXact s) else cmdError s)

/-- A reserved code (R70), also while a command runs (R13(b)). -/
def execCmdReserved (_lo : BitVec 2) (s : State) : Host.Outcome State Fault Refusal :=
  .next (cmdError s)

end Sys2Proof.Machine
end

