-- ==== Sys2Proof/WellFormed.lean ====
section
/-! DEFINITION. Which terms of `Instr` stand for an instruction of the table. A host command always does. A frame does when
no byte of its span is the terminator (the reader would end it there, R63, R68), when its date and time fields are packed BCD
(R145, R148, R149), and when no more specific row of the table describes the same bytes (the note of row OTHER). -/

namespace Sys2Proof

/-- The term stands for an instruction of the opcode table. -/
def Instr.wellFormed : Instr → Bool
  | .nop => true
  | .send => true
  | .rdf => true
  | .xact => true
  | .cmdReserved _ => true
  | .freqQuery dst src => plain dst && plain src
  | .freqReport dst src payload => plain dst && plain src && payload.all plain && !payload.isEmpty
  | .setDate dst src sub op yyHi yyLo mm dd =>
      plain dst && plain src && plain sub && plain op && isBcd yyHi && isBcd yyLo && isBcd mm && isBcd dd
  | .setTimeHM dst src sub op hh mm => plain dst && plain src && plain sub && plain op && isBcd hh && isBcd mm
  | .setTimeHMS dst src sub op hh mm ss =>
      plain dst && plain src && plain sub && plain op && isBcd hh && isBcd mm && isBcd ss
  | .ack dst src extra => plain dst && plain src && extra.all plain
  | .nak dst src extra => plain dst && plain src && extra.all plain
  | .other dst src op rest =>
      plain dst && plain src && plain op && rest.all plain && !isClassOpcode op && !(op == Config.opcExt1 && isSetTail rest)
  | .noopc dst src => plain dst && plain src
  | .undersized x => x.all plain

end Sys2Proof
end

