-- ==== Sys2Proof/Decode.lean ====
section
/-! DEFINITION. From the words of an instruction to the instruction, total on any words, and back. A word written to `CMD`
always decodes (R69, R70). Bytes of the receive stream decode when they are exactly one delimited span: two preamble bytes,
bytes other than the terminator, the terminator (R60, R63); anything else is rejected by name and is, for the block, a
stretch of raw bytes. -/

namespace Sys2Proof

open Machine (encodeFrame)

/-- Why bytes of the receive stream are not one instruction. -/
inductive DecodeError where
  /-- They do not begin with the preamble twice (R60). -/
  | noPreamble
  /-- They do not end with the terminator (R60). -/
  | noTerminator
  /-- The terminator stands before their end, so that the reader would end there (R63). -/
  | innerTerminator
  deriving DecidableEq, Repr

/-- The command code of a word written to `CMD`: bits 2:0, the others ignored (R15, R69). -/
def decodeCmd (w : Word) : Instr :=
  if w.getLsbD 2 then .cmdReserved (w.extractLsb' 0 2)
  else if w.getLsbD 1 then (if w.getLsbD 0 then .xact else .rdf)
  else (if w.getLsbD 0 then .send else .nop)

/-- A body whose opcode byte is `1A`: SET_DATE, SET_TIME_HM and SET_TIME_HMS by what follows it (R148, R149), else OTHER. -/
def decodeExt (dst src : Byte) (rest : List Byte) : Instr :=
  if isSetTail rest then
    match rest with
    | [_, sub, op, hh, mm] => .setTimeHM dst src sub op hh mm
    | [_, sub, op, hh, mm, ss] => .setTimeHMS dst src sub op hh mm ss
    | [_, sub, op, yyHi, yyLo, mm, dd] => .setDate dst src sub op yyHi yyLo mm dd
    | _ => .other dst src Config.opcExt1 rest
  else .other dst src Config.opcExt1 rest

/-- A frame by its body (the opcode map, R66, and the fixed frames of R61). -/
def decodeBody (dst src : Byte) : List Byte → Instr
  | [] => .noopc dst src
  | op :: rest =>
      if op = Config.opcFreq then
        (match rest with
        | [] => .freqQuery dst src
        | p :: ps => .freqReport dst src (p :: ps))
      else if op = Config.opcAck then .ack dst src rest
      else if op = Config.opcNak then .nak dst src rest
      else if op = Config.opcExt1 then decodeExt dst src rest
      else .other dst src op rest

/-- A delimited span (R110, R111). -/
def decodeSpanInstr : List Byte → Instr
  | [] => .undersized none
  | [x] => .undersized (some x)
  | dst :: src :: body => decodeBody dst src body

/-- Bytes of the receive stream. -/
def decodeWire : List Byte → Except DecodeError Instr
  | p :: q :: rest =>
      if p = Config.preamble ∧ q = Config.preamble then
        if rest.getLast? = some Config.term then
          if rest.dropLast.all plain then .ok (decodeSpanInstr rest.dropLast) else .error .innerTerminator
        else .error .noTerminator
      else .error .noPreamble
  | _ => .error .noPreamble

/-- The decoder, total on any image. -/
def decode : Image → Except DecodeError Instr
  | .cmd w => .ok (decodeCmd w)
  | .wire bytes => decodeWire bytes

/-- The least three bytes of a span that is no frame: `FE FE FD` or `FE FE x FD` (R62). -/
def encodeUndersized (x : Option Byte) : List Byte :=
  Config.preamble :: Config.preamble :: (x.toList ++ [Config.term])

/-- The bytes of each frame row of the table, from its encoding (R61, R146 to R152); a host command has none. -/
def Instr.wireBytes : Instr → List Byte
  | .nop => []
  | .send => []
  | .rdf => []
  | .xact => []
  | .cmdReserved _ => []
  | .freqQuery dst src => encodeFrame dst src [Config.opcFreq]
  | .freqReport dst src payload => encodeFrame dst src (Config.opcFreq :: payload)
  | .setDate dst src sub op yyHi yyLo mm dd =>
      encodeFrame dst src [Config.opcExt1, Config.opcExt2, sub, op, yyHi, yyLo, mm, dd]
  | .setTimeHM dst src sub op hh mm => encodeFrame dst src [Config.opcExt1, Config.opcExt2, sub, op, hh, mm]
  | .setTimeHMS dst src sub op hh mm ss => encodeFrame dst src [Config.opcExt1, Config.opcExt2, sub, op, hh, mm, ss]
  | .ack dst src extra => encodeFrame dst src (Config.opcAck :: extra)
  | .nak dst src extra => encodeFrame dst src (Config.opcNak :: extra)
  | .other dst src op rest => encodeFrame dst src (op :: rest)
  | .noopc dst src => encodeFrame dst src []
  | .undersized x => encodeUndersized x

/-- The encoder: the word of a host command with its ignored bits 0 (R69, R70), the bytes of a frame. -/
def encode : Instr → Image
  | .nop => .cmd 0
  | .send => .cmd 1
  | .rdf => .cmd 2
  | .xact => .cmd 3
  | .cmdReserved lo => .cmd (4#32 ||| lo.setWidth 32)
  | .freqQuery dst src => .wire (Instr.freqQuery dst src).wireBytes
  | .freqReport dst src payload => .wire (Instr.freqReport dst src payload).wireBytes
  | .setDate dst src sub op yyHi yyLo mm dd => .wire (Instr.setDate dst src sub op yyHi yyLo mm dd).wireBytes
  | .setTimeHM dst src sub op hh mm => .wire (Instr.setTimeHM dst src sub op hh mm).wireBytes
  | .setTimeHMS dst src sub op hh mm ss => .wire (Instr.setTimeHMS dst src sub op hh mm ss).wireBytes
  | .ack dst src extra => .wire (Instr.ack dst src extra).wireBytes
  | .nak dst src extra => .wire (Instr.nak dst src extra).wireBytes
  | .other dst src op rest => .wire (Instr.other dst src op rest).wireBytes
  | .noopc dst src => .wire (Instr.noopc dst src).wireBytes
  | .undersized x => .wire (Instr.undersized x).wireBytes

/-- The bytes of a number of `nbits` bits, the least significant first: bit 0 of the number is bit 0 of the first byte. -/
def bytesOfNat : (n w : Nat) → List Byte
  | 0, _ => []
  | n + 1, w => BitVec.ofNat 8 w :: bytesOfNat n (w / 256)

/-- The bytes begin with the preamble twice (R60). -/
def isFrameImage : List Byte → Bool
  | p :: q :: _ => p == Config.preamble && q == Config.preamble
  | _ => false

/-- The image that the table numbers as `w` with `nbits` bits. A row of format CIV_FRAME has at least two bytes and begins with
the preamble twice, the first byte on the wire in the lowest bits, or, as the table writes `match` for these rows, in the
highest; any other number of at most 32 bits is a word written to `CMD`. DESIGN CHOICE, log 16. -/
def tableImage (nbits w : Nat) : Option Image :=
  let bytes := bytesOfNat ((nbits + 7) / 8) w
  if isFrameImage bytes then some (.wire bytes)
  else if isFrameImage bytes.reverse then some (.wire bytes.reverse)
  else if nbits ≤ 32 then some (.cmd (BitVec.ofNat 32 w))
  else none

/-- The instruction the decoder reads from an instruction whose bits are `w`, numbered as the opcode table numbers them. -/
def decodeTableWord (nbits w : Nat) : Option Instr :=
  match tableImage nbits w with
  | some im => (decode im).toOption
  | none => none

end Sys2Proof
end

