-- ==== Sys2Proof/Machine/Frames.lean ====
section
/-! DEFINITION. The meanings of the CI-V frames (44_civ_commands.md): each is the arrival of its bytes on the receive stream
(log 7). While a byte read is pending the block takes them at once, through the reader, the decoder and the classifier (R90 to
R117), which know the opcode byte alone (R115); otherwise they wait in the transport (R43). -/

namespace Sys2Proof.Machine

/-- A frame arrives: its bytes, in wire order (R44). -/
def frameArrives (i : Instr) (s : State) : Host.Outcome State Fault Refusal := .next (arrive i.wireBytes s)

/-- FREQ_QUERY (R146): class FREQ, as an echo of the block's own query or from another controller. -/
def execFreqQuery (dst src : Byte) (s : State) : Host.Outcome State Fault Refusal :=
  frameArrives (.freqQuery dst src) s

/-- FREQ_REPORT (R147): class FREQ; the payload is not looked at. -/
def execFreqReport (dst src : Byte) (payload : List Byte) (s : State) : Host.Outcome State Fault Refusal :=
  frameArrives (.freqReport dst src payload) s

/-- SET_DATE (R148): class OTHER when received. -/
def execSetDate (dst src sub op yyHi yyLo mm dd : Byte) (s : State) : Host.Outcome State Fault Refusal :=
  frameArrives (.setDate dst src sub op yyHi yyLo mm dd) s

/-- SET_TIME without seconds (R149): class OTHER when received. -/
def execSetTimeHM (dst src sub op hh mm : Byte) (s : State) : Host.Outcome State Fault Refusal :=
  frameArrives (.setTimeHM dst src sub op hh mm) s

/-- SET_TIME with seconds (R149): class OTHER when received. -/
def execSetTimeHMS (dst src sub op hh mm ss : Byte) (s : State) : Host.Outcome State Fault Refusal :=
  frameArrives (.setTimeHMS dst src sub op hh mm ss) s

/-- ACK (R150): class ACK, whatever follows the opcode byte. -/
def execAck (dst src : Byte) (extra : List Byte) (s : State) : Host.Outcome State Fault Refusal :=
  frameArrives (.ack dst src extra) s

/-- NAK (R151): class NAK, whatever follows the opcode byte. -/
def execNak (dst src : Byte) (extra : List Byte) (s : State) : Host.Outcome State Fault Refusal :=
  frameArrives (.nak dst src extra) s

/-- OTHER (R152): class OTHER. -/
def execOther (dst src op : Byte) (rest : List Byte) (s : State) : Host.Outcome State Fault Refusal :=
  frameArrives (.other dst src op rest) s

/-- NOOPC (R114): a frame with an empty body. -/
def execNoopc (dst src : Byte) (s : State) : Host.Outcome State Fault Refusal :=
  frameArrives (.noopc dst src) s

/-- UNDERSIZED (R111): no frame; counted in `MALCNT`, never classified. -/
def execUndersized (x : Option Byte) (s : State) : Host.Outcome State Fault Refusal :=
  frameArrives (.undersized x) s

end Sys2Proof.Machine
end

