-- ==== Sys2Proof/Machine/Dispatch.lean ====
section
/-! DEFINITION. One arm per instruction: the call of its meaning. -/

namespace Sys2Proof.Machine

def exec (i : Instr) (s : State) : Host.Outcome State Fault Refusal :=
  match i with
  | .nop => Sys2Proof.Machine.execNop s
  | .send => Sys2Proof.Machine.execSend s
  | .rdf => Sys2Proof.Machine.execRdf s
  | .xact => Sys2Proof.Machine.execXact s
  | .cmdReserved lo => Sys2Proof.Machine.execCmdReserved lo s
  | .freqQuery dst src => Sys2Proof.Machine.execFreqQuery dst src s
  | .freqReport dst src payload => Sys2Proof.Machine.execFreqReport dst src payload s
  | .setDate dst src sub op yyHi yyLo mm dd => Sys2Proof.Machine.execSetDate dst src sub op yyHi yyLo mm dd s
  | .setTimeHM dst src sub op hh mm => Sys2Proof.Machine.execSetTimeHM dst src sub op hh mm s
  | .setTimeHMS dst src sub op hh mm ss => Sys2Proof.Machine.execSetTimeHMS dst src sub op hh mm ss s
  | .ack dst src extra => Sys2Proof.Machine.execAck dst src extra s
  | .nak dst src extra => Sys2Proof.Machine.execNak dst src extra s
  | .other dst src op rest => Sys2Proof.Machine.execOther dst src op rest s
  | .noopc dst src => Sys2Proof.Machine.execNoopc dst src s
  | .undersized x => Sys2Proof.Machine.execUndersized x s

end Sys2Proof.Machine
end

