-- ==== Sys2Proof/Machine/Fetch.lean ====
section
/-! DEFINITION. Where the next instruction comes from: the block fetches nothing (R12); a host write to `CMD` hands it a command
(R15, R69), the transport hands it bytes (R42). -/

namespace Sys2Proof.Machine

/-- The instruction image a stimulus brings, if it brings one. -/
def Stimulus.image? : Stimulus → Option Image
  | .write n d => if n = RegNum.cmd then some (.cmd d) else none
  | .rx bytes => some (.wire bytes)
  | .read _ => none
  | .quiet => none
  | .txReady => none
  | .tick => none
  | .lagTick => none
  | .lags _ => none
  | .settle => none
  | .reset => none

/-- The stimulus that brings an instruction image. -/
def Stimulus.ofImage : Image → Stimulus
  | .cmd w => .write RegNum.cmd w
  | .wire bytes => .rx bytes

/-- The instruction a stimulus brings, if its image decodes. -/
def fetch (e : Stimulus) : Option Instr :=
  match e.image? with
  | some im => (decode im).toOption
  | none => none

/-- The stimulus that brings the image the opcode table numbers as `w`. -/
def tableStimulus (nbits w : Nat) : List Stimulus :=
  match tableImage nbits w with
  | some im => [Stimulus.ofImage im]
  | none => []

end Sys2Proof.Machine
end

