-- ==== Sys2Proof/Machine/Step.lean ====
section
/-! DEFINITION. One step: the next stimulus of the environment, an instruction or not. With none left nothing happens. -/

namespace Sys2Proof.Machine

/-- One step of the machine. A host write to `CMD` and the bytes of one frame are instructions and go to `exec`; any other
stimulus takes effect by itself (log 8). -/
def step (s : State) : Host.Outcome State Fault Refusal :=
  match s.inbox with
  | [] => .next s
  | e :: es =>
      match fetch e with
      | some i => exec i { s with inbox := es }
      | none => .next (deliver e { s with inbox := es })

/-- `s` with the instruction that the opcode table numbers as `w` as its next stimulus. -/
def State.withFetchWord (s : State) (nbits w : Nat) : State :=
  { s with inbox := tableStimulus nbits w ++ s.inbox }

end Sys2Proof.Machine
end

