-- ==== Sys2Proof/Machine/Run.lean ====
section
/-! DEFINITION. Runs of the machine under an environment that never ends (R228, R235), and the host's accesses one at a time. -/

namespace Sys2Proof.Machine

/-- The state after a step. No step stops (`Fault` is empty, no arm of `exec` refuses), so the other two cases never occur. -/
def nextState (s : State) : State :=
  match step s with
  | .next t => t
  | .fault _ => s
  | .refused _ => s

/-- The host makes one access now, before anything else the environment holds. -/
def hostAccess (e : Stimulus) (s : State) : State := nextState { s with inbox := e :: s.inbox }

/-- The environment does one thing more, after all it holds, and the machine makes a step. -/
def feed (e : Stimulus) (s : State) : State := nextState { s with inbox := s.inbox ++ [e] }

/-- The run under an endless stream of stimuli, after its first `n`: bytes and ticks may come for ever (R228), an acceptance of a
transmitted byte may never come (R235). -/
def streamRun (env : Nat → Stimulus) (s : State) : Nat → State
  | 0 => s
  | n + 1 => feed (env n) (streamRun env s n)

end Sys2Proof.Machine
end

