-- ==== Sys2Proof/Machine/Script.lean ====
section
/-! DEFINITION. Host scripts (R72) and the macros LOADTX and TRANSACT (R73): the statements of a host program, and how a host runs
them against the machine. Software outside the block; nothing here is state of the machine (R30). -/

namespace Sys2Proof.Machine

/-- One statement of a host program (R72), and the reads that R178 makes depend on what was read before. -/
inductive Stmt where
  /-- `WR reg, value`. -/
  | wr (reg : RegNum) (data : Word)
  /-- `RD reg`. -/
  | rd (reg : RegNum)
  /-- `WAIT`: read `STATUS` until `DONE = 1`. -/
  | wait
  /-- `WAIT` in its other form: wait for `irq`. -/
  | waitIrq
  /-- For DATA or UNEXPECTED in the `RESULT` last read, read the result frame registers (R178). -/
  | rdFrame
  /-- Read as many elements of `RES_BODY` as the word last read says. -/
  | rdBody
  deriving DecidableEq, Repr

/-- `NOP`, `SEND`, `RDF`, `XACT` (R72). -/
def Stmt.nop : Stmt := .wr RegNum.cmd 0
def Stmt.send : Stmt := .wr RegNum.cmd 1
def Stmt.rdf : Stmt := .wr RegNum.cmd 2
def Stmt.xact : Stmt := .wr RegNum.cmd 3

/-- The operands of one XACT (R73, macro TRANSACT). -/
structure Request where
  dst : Byte
  src : Byte
  body : List Byte
  expect : BitVec 3
  deadline : Word
  deriving DecidableEq, Repr

/-- The body elements of macro LOADTX (R73), from index `i`. -/
def loadBody (i : Nat) : List Byte → List Stmt
  | [] => []
  | b :: bs => .wr ⟨1, i⟩ (b.setWidth 32) :: loadBody (i + 1) bs

/-- Macro LOADTX (R73). -/
def loadTx (dst src : Byte) (body : List Byte) : List Stmt :=
  [.wr ⟨0, 6⟩ (dst.setWidth 32), .wr ⟨0, 7⟩ (src.setWidth 32), .wr ⟨0, 8⟩ (BitVec.ofNat 32 body.length)] ++ loadBody 0 body

/-- What follows the operands in macro TRANSACT: `XACT; WAIT; RD RESULT` (R73). -/
def executeAndRead : List Stmt := [Stmt.xact, .wait, .rd ⟨0, 9⟩]

/-- Macro TRANSACT (R73). -/
def transact (r : Request) : List Stmt :=
  loadTx r.dst r.src r.body ++ ([Stmt.wr ⟨0, 3⟩ (r.expect.setWidth 32), .wr ⟨0, 5⟩ r.deadline] ++ executeAndRead)

/-- The reads of the result frame registers: `RES_TO`, `RES_FROM`, `RES_LEN`, `RES_BODY` (R24, R178). -/
def frameReads : List Stmt := [.rd ⟨0, 0x0A⟩, .rd ⟨0, 0x0B⟩, .rd ⟨0, 0x0C⟩, .rdBody]

/-- The reads of `n` elements of `RES_BODY` from index `i`. -/
def bodyReads (i : Nat) : Nat → List Stmt
  | 0 => []
  | n + 1 => .rd ⟨2, i⟩ :: bodyReads (i + 1) n

/-- The outcome in a word read from `RESULT`, bits 3:0 (R23); the codes 9 to 15 are never produced. -/
def kindOfResult (w : Word) : Option Kind :=
  match (w.extractLsb' 0 4).toNat with
  | 0 => some .none
  | 1 => some .data
  | 2 => some .ack
  | 3 => some .nak
  | 4 => some .unexpected
  | 5 => some .timeout
  | 6 => some .malformed
  | 7 => some .sent
  | 8 => some .frame
  | _ => none

/-- The host reads the result frame registers too: after DATA or UNEXPECTED (R178). -/
def resultHasFrame (w : Word) : Bool := kindOfResult w == some .data || kindOfResult w == some .unexpected

/-- A host program under way against the machine. -/
structure HostRun where
  /-- The machine, with the rest of the environment in its inbox. -/
  machine : State
  /-- The statements still to come. -/
  program : List Stmt
  /-- The word last read from `RESULT`. -/
  result : Word
  /-- What the `RD` statements have read, the oldest first. -/
  reads : List Word
  deriving DecidableEq, Repr

/-- The next statement of the host program. A `WAIT` that finds `DONE = 0` (or `irq` low) lets the machine make a step and stays. -/
def hostStep (h : HostRun) : HostRun :=
  match h.program with
  | [] => h
  | .wr n d :: rest => { h with machine := hostAccess (.write n d) h.machine, program := rest }
  | .rd n :: rest =>
      let m := hostAccess (.read n) h.machine
      { machine := m, program := rest, result := if n = ⟨0, 9⟩ then m.hRdata else h.result, reads := h.reads ++ [m.hRdata] }
  | .wait :: rest =>
      let m := hostAccess (.read ⟨0, 2⟩) h.machine
      if m.hRdata.getLsbD 1 then { h with machine := m, program := rest } else { h with machine := nextState m }
  | .waitIrq :: rest =>
      if h.machine.irq then { h with program := rest } else { h with machine := nextState h.machine }
  | .rdFrame :: rest => { h with program := (if resultHasFrame h.result then frameReads else []) ++ rest }
  | .rdBody :: rest => { h with program := bodyReads 0 (h.reads.getLast?.getD 0).toNat ++ rest }

/-- `n` steps of the host program. -/
def hostRun : Nat → HostRun → HostRun
  | 0, h => h
  | n + 1, h => hostRun n (hostStep h)

end Sys2Proof.Machine
end

