-- ==== Sys2Proof/Machine/Session.lean ====
section
/-! DEFINITION. The reference host program (45_host_session.md) and the fields it builds (44_civ_commands.md): software outside
the block. Nothing here is state of the machine (R30). -/

namespace Sys2Proof.Machine

/-! ### Fields -/

/-- `bcd(n)` (R145), defined for `n <= 99`; above, the host must not build the frame (U6). -/
def bcd (n : Nat) : Byte := BitVec.ofNat 8 ((n / 10) * 16 + n % 10)

/-- The year's two bytes, century pair first (R153). -/
def bcdYear (y : Nat) : List Byte := [bcd (y / 100), bcd (y % 100)]

/-- The five payload bytes of a frequency in Hz, the least significant pair of digits first (R155). PRESUMED by the spec itself:
general knowledge; the block does not use it. -/
def freqPayload (hz : Nat) : List Byte :=
  [bcd (hz % 100), bcd (hz / 100 % 100), bcd (hz / 10000 % 100), bcd (hz / 1000000 % 100), bcd (hz / 100000000 % 100)]

/-! ### Inputs -/

/-- A RadioProfile (R167). -/
structure RadioProfile where
  busAddress : Byte
  modelSubcode : Byte
  dateOpcode : Byte
  timeOpcode : Byte
  hasSeconds : Bool
  deriving DecidableEq, Repr

/-- The date and time to transmit: "year, month, day, hour, minute, optionally second" (R165(c)). -/
structure DateTime where
  year : Nat
  month : Nat
  day : Nat
  hour : Nat
  minute : Nat
  second : Option Nat
  deriving DecidableEq, Repr

/-- The local-vs-UTC clock flag (R165(c)). -/
inductive ClockSource where
  | utc
  | localTime
  deriving DecidableEq, Repr

/-- One reading of the host's clock, in both time bases. The clock itself is outside (R165(c)). -/
structure Clock where
  utc : DateTime
  localTime : DateTime
  deriving DecidableEq, Repr

/-- The date and time sourced from the clock: UTC by default, local time if configured (R165(c)). -/
def Clock.source (c : Clock) (flag : Option ClockSource) : DateTime :=
  match flag.getD .utc with
  | .utc => c.utc
  | .localTime => c.localTime

/-- What the caller configures: the closed set of supported models and the model selected from it (R165(a), R167), the override
bus address (R165(b)), the clock flag (R165(c)), and the OPEN parameters of the host (R5, R166). -/
structure SessionConfig where
  models : List (String × RadioProfile)
  model : String
  overrideAddress : Option Byte
  clock : Option ClockSource
  ctrlAddr : Byte
  probeDeadline : Word
  ackDeadline : Word
  readTimeout : Word
  deriving DecidableEq, Repr

/-- What a session has from its construction on, and never changes (R165). -/
structure SessionInput where
  profile : RadioProfile
  overrideAddress : Option Byte
  time : DateTime
  ctrlAddr : Byte
  probeDeadline : Word
  ackDeadline : Word
  readTimeout : Word
  deriving DecidableEq, Repr

/-- The radio model selector (R165(a)). -/
def selectModel (model : String) : List (String × RadioProfile) → Option RadioProfile
  | [] => none
  | (name, p) :: rest => if name = model then some p else selectModel model rest

/-- The radio's address: the profile's, or the one that overrides it (R165(b), R170). -/
def SessionInput.radioAddr (p : SessionInput) : Byte := p.overrideAddress.getD p.profile.busAddress

/-! ### Requests -/

/-- Macro PROBE (R73, R170). -/
def probeRequest (p : SessionInput) : Request :=
  ⟨p.radioAddr, p.ctrlAddr, [Config.opcFreq], 1, p.probeDeadline⟩

/-- The four opcode bytes of an extended command (R148, R149): `1A 05`, the model's sub-code, its date or time opcode. -/
def extOpcode (p : SessionInput) (op : Byte) : List Byte := [Config.opcExt1, Config.opcExt2, p.profile.modelSubcode, op]

/-- Macro SETDATE (R73, R148, R172), defined for fields in the domain of `bcd` (U6). -/
def dateRequest (p : SessionInput) : Option Request :=
  if p.time.year ≤ 9999 ∧ p.time.month ≤ 99 ∧ p.time.day ≤ 99 then
    some ⟨p.radioAddr, p.ctrlAddr,
      extOpcode p p.profile.dateOpcode ++ bcdYear p.time.year ++ [bcd p.time.month, bcd p.time.day], 6, p.ackDeadline⟩
  else none

/-- The seconds byte of SETTIME (R149, R174): there exactly when the profile supports seconds, and then the time must carry a
second in the domain of `bcd`. Outside, whether the time carries none or one out of range, no frame is built (log 20). -/
def secondBytes (p : SessionInput) : Option (List Byte) :=
  if p.profile.hasSeconds then
    match p.time.second with
    | some s => if s ≤ 99 then some [bcd s] else none
    | none => none
  else some []

/-- Macro SETTIME (R73, R149, R174), defined for fields in the domain of `bcd` (U6). -/
def timeRequest (p : SessionInput) : Option Request :=
  match secondBytes p with
  | some sec =>
      if p.time.hour ≤ 99 ∧ p.time.minute ≤ 99 then
        some ⟨p.radioAddr, p.ctrlAddr,
          extOpcode p p.profile.timeOpcode ++ [bcd p.time.hour, bcd p.time.minute] ++ sec, 6, p.ackDeadline⟩
      else none
  | none => none

/-- One session phase (R178): the read timeout, macro TRANSACT, and after DATA or UNEXPECTED the result frame registers. -/
def sessionPhase (p : SessionInput) (r : Request) : List Stmt :=
  .wr ⟨0, 4⟩ p.readTimeout :: (transact r ++ [Stmt.rdFrame])

/-- The construction of a session (R165). `none` is a configuration error: the model is not supported, or a date or time field
cannot be sent to it (U6). DESIGN CHOICE, log 20: the error is found here, before anything is sent. -/
def SessionInput.construct (c : SessionConfig) (clock : Clock) : Option SessionInput :=
  match selectModel c.model c.models with
  | some profile =>
      let p : SessionInput :=
        ⟨profile, c.overrideAddress, clock.source c.clock, c.ctrlAddr, c.probeDeadline, c.ackDeadline, c.readTimeout⟩
      if (dateRequest p).isSome && (timeRequest p).isSome then some p else none
  | none => none

/-! ### The state machine -/

/-- The session's states (R169). -/
inductive SessionState where
  | idle
  | probing
  | probedOk
  | probedFail
  | settingDate
  | dateAcked
  | dateFailed
  | settingTime
  | done
  | timeFailed
  deriving DecidableEq, Repr

/-- The request that a state sends (R170, R172, R174). -/
def sessionRequest (p : SessionInput) : SessionState → Option Request
  | .probing => some (probeRequest p)
  | .settingDate => dateRequest p
  | .settingTime => timeRequest p
  | .idle => none
  | .probedOk => none
  | .probedFail => none
  | .dateAcked => none
  | .dateFailed => none
  | .done => none
  | .timeFailed => none

/-- The transitions that wait for nothing: the start, and the two states passed through (R169, R170, R172, R174). -/
def sessionAdvance : SessionState → SessionState
  | .idle => .probing
  | .probedOk => .settingDate
  | .dateAcked => .settingTime
  | .probing => .probing
  | .probedFail => .probedFail
  | .settingDate => .settingDate
  | .dateFailed => .dateFailed
  | .settingTime => .settingTime
  | .done => .done
  | .timeFailed => .timeFailed

/-- The transition on the outcome of the phase's XACT (the table of R168). -/
def sessionOutcome (st : SessionState) (k : Kind) : SessionState :=
  match st with
  | .probing => if k = .data then .probedOk else .probedFail
  | .settingDate => if k = .ack then .dateAcked else .dateFailed
  | .settingTime => if k = .ack then .done else .timeFailed
  | .idle => .idle
  | .probedOk => .probedOk
  | .probedFail => .probedFail
  | .dateAcked => .dateAcked
  | .dateFailed => .dateFailed
  | .done => .done
  | .timeFailed => .timeFailed

/-- The transition on the word read from `RESULT` at the end of a phase (R168, R178). -/
def sessionObserve (st : SessionState) (w : Word) : SessionState :=
  match kindOfResult w with
  | some k => sessionOutcome st k
  | none => st

/-- The exit status of a terminal state (R171, R173, R175, R176, R177). -/
def sessionExit : SessionState → Option Nat
  | .done => some 0
  | .probedFail => some 2
  | .dateFailed => some 3
  | .timeFailed => some 4
  | .idle => none
  | .probing => none
  | .probedOk => none
  | .settingDate => none
  | .dateAcked => none
  | .settingTime => none

/-- The exit status of a configuration error (R177). -/
def configurationErrorExit : Nat := 1

/-- The session has come to a phase whose request cannot be built (U6), which `SessionInput.construct` rules out. DESIGN CHOICE,
log 20: it stops there, its frame is never sent, and it is a configuration error. -/
def sessionRefused (p : SessionInput) (st : SessionState) : Bool :=
  (st == .settingDate && (dateRequest p).isNone) || (st == .settingTime && (timeRequest p).isNone)

/-- The exit status where a session stands: of a terminal state, or of one that it cannot go on from (R177, log 20). -/
def sessionResult (p : SessionInput) (st : SessionState) : Option Nat :=
  if sessionRefused p st then some configurationErrorExit else sessionExit st

/-- The exit status of a transport that cannot be opened, `TransportUnavailable` (R177, R196). -/
def transportUnavailableExit : Nat := 1

/-- A session from its start over the outcomes its XACTs end with, one for each phase: where it stands, and the requests it has
sent, in order (R169 to R176, R180). -/
def sessionRun (p : SessionInput) : SessionState → List Kind → SessionState × List Request
  | st, [] => (st, [])
  | st, k :: ks =>
      match sessionRequest p (sessionAdvance st) with
      | some r =>
          let rest := sessionRun p (sessionOutcome (sessionAdvance st) k) ks
          (rest.1, r :: rest.2)
      | none => (sessionAdvance st, [])

/-- The result of a session (R177): the exit status, `none` while a phase's outcome is still to come, and the requests sent. A
configuration error and a transport that cannot be opened end it before anything is sent. -/
def sessionStatus (c : SessionConfig) (clock : Clock) (transportOpens : Bool) (ks : List Kind) : Option Nat × List Request :=
  match SessionInput.construct c clock with
  | none => (some configurationErrorExit, [])
  | some p =>
      if transportOpens then
        let r := sessionRun p .idle ks
        (sessionResult p r.1, r.2)
      else (some transportUnavailableExit, [])

/-! ### A session that drives the machine -/

/-- A session under way: its state and the host program of the phase it is in (R178). -/
structure SessionRun where
  state : SessionState
  host : HostRun
  deriving DecidableEq, Repr

/-- The session goes on from a state: it passes through the states that wait for nothing and loads the next phase. In a terminal
state, and where a request cannot be built (`sessionRefused`), it loads none. -/
def sessionEnter (p : SessionInput) (st : SessionState) (h : HostRun) : SessionRun :=
  match sessionRequest p (sessionAdvance st) with
  | some r => ⟨sessionAdvance st, { h with program := sessionPhase p r }⟩
  | none => ⟨sessionAdvance st, h⟩

/-- The start of a session on a machine (R170). -/
def sessionStart (p : SessionInput) (s : State) : SessionRun := sessionEnter p .idle ⟨s, [], 0, []⟩

/-- The next statement of the phase, or at its end the transition on the `RESULT` it read (R168, R178). A session that stands where
no request is sent, in a terminal state or refused (log 20), stays: the `RESULT` of an earlier phase is no outcome of it. -/
def sessionStep (p : SessionInput) (x : SessionRun) : SessionRun :=
  if x.host.program.isEmpty then
    (match sessionRequest p x.state with
    | some _ => sessionEnter p (sessionObserve x.state x.host.result) x.host
    | none => x)
  else { x with host := hostStep x.host }

end Sys2Proof.Machine
end

