-- ==== Sys2Proof/Safety.lean ====
section
/-! DEFINITION. What claims about runs speak of: the invariant of the machine, and a reader at the start of an invocation. -/

namespace Sys2Proof.Machine

/-- `BUSY`, `CUROP` and `OPST` tell the same story (R12): busy exactly while a command is latched, SEND only transmits, RDF only
reads, XACT does either. -/
def State.sequencerOk (s : State) : Bool :=
  match s.curop with
  | .none => !s.status.busy && decide (s.opst = .idle)
  | .send => s.status.busy && decide (s.opst = .tx)
  | .rdf => s.status.busy && decide (s.opst = .rd)
  | .xact => s.status.busy && (decide (s.opst = .tx) || decide (s.opst = .rd))

/-- Every element of the buffer below `n` has been written. -/
def Memory.filled (m : Memory) : Nat → Bool
  | 0 => true
  | n + 1 => (m.read? n).isSome && Memory.filled m n

/-- A step that is due belongs to the running command: the outcome of a SEND, a returned invocation of an RDF or XACT (its frame
short enough for the result frame registers), the deadline check of an XACT. -/
def State.dueOk (s : State) : Bool :=
  match s.due with
  | none => true
  | some .sent => decide (s.curop = .send) && decide (s.opst = .tx)
  | some .check => decide (s.curop = .xact) && decide (s.opst = .rd)
  | some (.returned (.frame f)) => decide (s.opst = .rd) && decide (f.body.length ≤ s.bmax)
  | some (.returned .malformed) => decide (s.opst = .rd)
  | some (.returned .timeout) => decide (s.opst = .rd)

/-- The invariant that every step keeps, from any state that has it. -/
structure State.Inv (s : State) : Prop where
  /-- R5: `LMAX >= 10`. -/
  lmax_ge : 10 ≤ s.lmax
  /-- R12. -/
  sequencer : s.sequencerOk = true
  /-- A command runs or its outcome is raised, never both (R17, R203). -/
  busy_not_done : s.status.busy = true → s.status.done = false
  /-- A step that is due is one of the running command, where it can come to it (R84, R104, R127). -/
  due_place : s.dueOk = true
  /-- While a byte is being put it is one of the frame, and the frame fits (R12, R85). -/
  tx_index : s.opst = .tx → (s.due = none → s.txidx < s.txLen + 5) ∧ s.txLen ≤ s.bmax
  /-- R29. -/
  txidx_le : s.txidx ≤ s.bmax + 5
  /-- While a byte read is pending the transport holds no byte: the block has taken them all (R43, R107). -/
  rx_taken : s.reading → s.rxq = []
  /-- R26, R33(c). -/
  blen_le : s.blen ≤ s.lmax
  /-- While the reader hunts for a preamble nothing is accumulated (R91, R95, R96). -/
  hunting_empty : s.opst = .rd → s.rs ≠ .accum → s.blen = 0
  /-- R24. -/
  resLen_le : s.resLen ≤ s.bmax
  /-- R28: a read never waits longer than `RDTMO`. -/
  rtcnt_le : s.opst = .rd → s.rtcnt.toNat ≤ s.rdtmo.toNat
  /-- R27: the deadline counter never exceeds the deadline it was loaded from. -/
  dlcnt_le : s.curop = .xact → s.dlcnt.toNat ≤ s.deadline.toNat
  /-- CLASS is NONE exactly when `VALID = 0` (R23). -/
  cls_valid : s.result.valid = s.result.cls.isSome
  /-- KIND stays NONE until the outcome is raised (R23). -/
  kind_busy : s.status.busy = true → s.result.kind = .none
  /-- A finished command holds a frame exactly for the outcomes that carry one (R23). -/
  valid_kind : s.status.busy = false → s.result.valid = s.result.kind.carriesFrame
  /-- A running command holds a frame exactly when it has recorded one (R17, R131). -/
  valid_uxseen : s.status.busy = true → s.result.valid = s.status.uxseen
  /-- Only XACT records a frame (R131). -/
  uxseen_xact : s.status.busy = true → s.status.uxseen = true → s.curop = .xact
  /-- The three buffers are in canonical form. -/
  txBody_wf : s.txBody.wf = true
  resBody_wf : s.resBody.wf = true
  buf_wf : s.buf.wf = true
  /-- The rules never read `BUF[i]` for `i >= BLEN` (R32), and below it every element has been written. -/
  buf_filled : Memory.filled s.buf s.blen = true
  /-- While `VALID = 1` the frame's elements of `RES_BODY` have been written (R24). -/
  resBody_filled : s.result.valid = true → Memory.filled s.resBody s.resLen = true

/-- The block spends no time of its own: no step is due, and none will wait (log 28). -/
def State.prompt (s : State) : Prop := s.lags = false ∧ s.due = none

/-- A byte read is pending at the start of a reader invocation, with no byte held: `RS = HUNT1`, `BLEN = 0` (R91). -/
def State.readerFresh (s : State) : Prop := s.reading ∧ s.rs = .hunt1 ∧ s.blen = 0 ∧ s.rxq = []

/-- The state of a reader that has taken a preamble and then `span` since the start of its invocation (R93, R95, R99): `ACCUM`,
the span in `BUF`, the next byte read started. -/
def State.heard (s : State) (span : List Byte) : State :=
  { s with rs := .accum, buf := s.buf.writeList 0 span, blen := span.length, rtcnt := s.rdtmo }

/-- The two bytes `FE FE` stand nowhere side by side. -/
def noPreamblePair : List Byte → Bool
  | a :: b :: rest => !(a == Config.preamble && b == Config.preamble) && noPreamblePair (b :: rest)
  | _ => true

/-- `n` cycles of a silent line, each with no byte offered and then a tick (R42, R206). -/
def silentCycles : Nat → List Stimulus
  | 0 => []
  | n + 1 => .quiet :: .tick :: silentCycles n

/-- The stimulus lets a tick pass (R206). -/
def Stimulus.isTick : Stimulus → Bool
  | .tick => true
  | .lagTick => true
  | .lags _ => false
  | .settle => false
  | .write _ _ => false
  | .read _ => false
  | .rx _ => false
  | .quiet => false
  | .txReady => false
  | .reset => false

/-- The stimulus brings no byte and is no act of the host or of reset: a tick, a cycle with no byte, an accepted byte. -/
def Stimulus.isSilent : Stimulus → Bool
  | .quiet => true
  | .txReady => true
  | .tick => true
  | .lagTick => true
  | .lags _ => false
  | .settle => false
  | .write _ _ => false
  | .read _ => false
  | .rx _ => false
  | .reset => false

/-- The bytes a stimulus brings to the transport. -/
def Stimulus.bytes : Stimulus → List Byte
  | .rx bs => bs
  | .write _ _ => []
  | .read _ => []
  | .quiet => []
  | .txReady => []
  | .tick => []
  | .lagTick => []
  | .lags _ => []
  | .settle => []
  | .reset => []

/-- The instruction is a frame of the wire (the rows of format CIV_FRAME), not a host command. -/
def isFrame : Instr → Bool
  | .nop => false
  | .send => false
  | .rdf => false
  | .xact => false
  | .cmdReserved _ => false
  | .freqQuery _ _ => true
  | .freqReport _ _ _ => true
  | .setDate _ _ _ _ _ _ _ _ => true
  | .setTimeHM _ _ _ _ _ _ => true
  | .setTimeHMS _ _ _ _ _ _ _ => true
  | .ack _ _ _ => true
  | .nak _ _ _ => true
  | .other _ _ _ _ => true
  | .noopc _ _ => true
  | .undersized _ => true

end Sys2Proof.Machine
end

