-- ==== Sys2Proof/Certificates/Slice0/Obligations.lean ====
section
/-! DEFINITION. The statements for the provers, from the numbered rules of spec/. Nothing is proved here. -/

open Sys2Proof Sys2Proof.Machine

/-! ### The machine: steps, reset, the invariant -/

/-- A step takes the next stimulus (R9, R206): the instruction it brings when its image decodes, else its own effect; with no
stimulus left nothing happens (R220: the block does nothing until the host writes CMD). -/
def Obligations.StepRunsDecodedInstruction : Prop :=
  (∀ (s : State) (e : Stimulus) (es : List Stimulus) (im : Image) (i : Instr),
    s.inbox = e :: es → e.image? = some im → decode im = .ok i → step s = exec i { s with inbox := es }) ∧
  (∀ (s : State) (bytes : List Byte) (es : List Stimulus) (err : DecodeError),
    s.inbox = .rx bytes :: es → decodeWire bytes = .error err → step s = .next (arrive bytes { s with inbox := es })) ∧
  (∀ (s : State) (e : Stimulus) (es : List Stimulus),
    s.inbox = e :: es → e.image? = none → step s = .next (deliver e { s with inbox := es })) ∧
  (∀ s : State, s.inbox = [] → step s = .next s)

/-- The table of R31 but for the buffer contents, which it leaves unspecified, with the outputs low: in the state after reset, and
after the reset input in any state (R220). -/
def Obligations.ResetStateValues : Prop :=
  let table := fun s : State =>
    s.curop = .none ∧ s.opst = .idle ∧ s.rs = .hunt1 ∧ s.ie = false ∧
    s.status = ⟨false, false, false, false, false⟩ ∧ s.expect = 0 ∧ s.rdtmo = 0 ∧ s.deadline = 0 ∧
    s.txTo = 0 ∧ s.txFrom = 0 ∧ s.txLen = 0 ∧ s.result = ⟨.none, none, false⟩ ∧
    s.resTo = 0 ∧ s.resFrom = 0 ∧ s.resLen = 0 ∧ s.malcnt = 0 ∧ s.blen = 0 ∧
    s.dlcnt = 0 ∧ s.rtcnt = 0 ∧ s.txidx = 0 ∧ s.txValid = false ∧ s.rxReady = false ∧ s.irq = false
  table State.reset ∧
  ∀ (s : State) (es : List Stimulus), s.inbox = .reset :: es → ∃ t, step s = .next t ∧ table t

/-- Reset during anything (R220, R221): every element of the block is at its reset value, no outcome is raised, and the bytes
the transport holds, the bytes already sent and what the environment does next stay. The model's own choices
in it: `hRdata` is 0 (log 6), the three buffers hold no known value (log 23), `lmax` and the counters stay (logs 1, 3, 4, 13), and whether
the block spends time of its own stays (log 28). -/
def Obligations.ResetAbandonsCommandAndKeepsTransport : Prop :=
  ∀ (s : State) (es : List Stimulus), s.inbox = .reset :: es →
    step s = .next { State.reset with
      lmax := s.lmax, lags := s.lags, inbox := es, rxq := s.rxq, tx := s.tx, ticks := s.ticks,
      cmdCount := s.cmdCount, readCount := s.readCount }

/-- Every step from a state with the invariant ends in a state with the invariant. -/
def Obligations.StepKeepsInvariant : Prop :=
  ∀ s t : State, s.Inv → step s = .next t → t.Inv

/-- The state after reset has the invariant. -/
def Obligations.ResetHasInvariant : Prop := State.reset.Inv

/-- No state makes a step stop: every step answers a next state (R67: no illegal and no trapping opcode; R190: failures are
outcome codes). -/
def Obligations.EveryStepAnswersNext : Prop := ∀ s : State, ∃ t, step s = .next t

/-! ### Encoding -/

/-- Decoding the encoding of a well-formed instruction gives it back, for every instruction of the table. -/
def Obligations.DecodeOfEncodeIsIdentity : Prop :=
  ∀ i : Instr, i.wellFormed = true → decode (encode i) = .ok i

/-- Bytes that decode have one meaning: the instruction is well-formed and its encoding is those bytes. -/
def Obligations.DecodedFrameEncodesBack : Prop :=
  ∀ (bytes : List Byte) (i : Instr), decodeWire bytes = .ok i → i.wellFormed = true ∧ encode i = .wire bytes

/-- The command code is bits 2:0 of the word written to CMD, bits 31:3 are ignored (R69), and each code is its row's command. -/
def Obligations.CommandCodeIsLowThreeBits : Prop :=
  (∀ w w' : Word, w.extractLsb' 0 3 = w'.extractLsb' 0 3 → decodeCmd w = decodeCmd w') ∧
  decodeCmd 0 = .nop ∧ decodeCmd 1 = .send ∧ decodeCmd 2 = .rdf ∧ decodeCmd 3 = .xact ∧
  decodeCmd 4 = .cmdReserved 0 ∧ decodeCmd 5 = .cmdReserved 1 ∧ decodeCmd 6 = .cmdReserved 2 ∧ decodeCmd 7 = .cmdReserved 3

/-- Bytes written out from R61's table of frames decode to the rows they stand for. -/
def Obligations.SampleFramesDecode : Prop :=
  decodeWire [0xFE, 0xFE, 0x5A, 0xE0, 0x03, 0xFD] = .ok (.freqQuery 0x5A 0xE0) ∧
  decodeWire [0xFE, 0xFE, 0xE0, 0x5A, 0x03, 0x00, 0x00, 0x10, 0x14, 0x00, 0xFD] =
    .ok (.freqReport 0xE0 0x5A [0x00, 0x00, 0x10, 0x14, 0x00]) ∧
  decodeWire [0xFE, 0xFE, 0x5A, 0xE0, 0x1A, 0x05, 0x00, 0x94, 0x20, 0x24, 0x04, 0x13, 0xFD] =
    .ok (.setDate 0x5A 0xE0 0x00 0x94 0x20 0x24 0x04 0x13) ∧
  decodeWire [0xFE, 0xFE, 0xE0, 0x5A, 0xFB, 0xFD] = .ok (.ack 0xE0 0x5A []) ∧
  decodeWire [0xFE, 0xFE, 0xE0, 0x5A, 0xFA, 0xFD] = .ok (.nak 0xE0 0x5A []) ∧
  decodeWire [0xFE, 0xFE, 0xFD] = .ok (.undersized none)

/-- The length law and the fixed bytes of an encoded frame (R82). -/
def Obligations.EncodedFrameLengthAndMarkers : Prop :=
  ∀ (dst src : Byte) (body : List Byte),
    (encodeFrame dst src body).length = body.length + 5 ∧
    (encodeFrame dst src body)[0]? = some 0xFE ∧ (encodeFrame dst src body)[1]? = some 0xFE ∧
    (encodeFrame dst src body).getLast? = some 0xFD ∧
    (encodeFrame dst src body)[2]? = some dst ∧ (encodeFrame dst src body)[3]? = some src

/-- The codec laws (R113(a) to (c)): decode after encode, encode after decode, and which spans are malformed. -/
def Obligations.CodecRoundTrips : Prop :=
  (∀ (dst src : Byte) (body : List Byte), decodeWhole (encodeFrame dst src body) = some ⟨dst, src, body⟩) ∧
  (∀ (w : List Byte) (f : Frame), decodeWhole w = some f → encodeFrame f.dst f.src f.body = w) ∧
  (∀ span : List Byte, decodeSpan span = none ↔ span.length < 2)

/-- The class of a frame (R114): NOOPC for an empty body, else by the first byte of the body alone (R115), with the register codes
of the classes; NOOPC is never terminal. -/
def Obligations.ClassReadsOpcodeByteOnly : Prop :=
  (∀ f g : Frame, f.body.head? = g.body.head? → classify f = classify g) ∧
  (∀ f : Frame, classify f = .noopc ↔ f.body = []) ∧
  (∀ f : Frame, classify f = .freq ↔ f.body.head? = some 0x03) ∧
  (∀ f : Frame, classify f = .ack ↔ f.body.head? = some 0xFB) ∧
  (∀ f : Frame, classify f = .nak ↔ f.body.head? = some 0xFA) ∧
  (∀ f : Frame, classify f = .other ↔
    ∃ op, f.body.head? = some op ∧ op ≠ 0x03 ∧ op ≠ 0xFB ∧ op ≠ 0xFA) ∧
  classCode none = 0 ∧ classCode (some .freq) = 1 ∧ classCode (some .ack) = 2 ∧ classCode (some .nak) = 3 ∧
  classCode (some .other) = 4 ∧ classCode (some .noopc) = 5 ∧ (∀ e : BitVec 3, terminal .noopc e = false)

/-- The terminal classes by the mask, for all eight masks, and the outcome each gives (R116). -/
def Obligations.TerminalClassesByMask : Prop :=
  (∀ e : BitVec 3, terminal .freq e = e.getLsbD 0 ∧ terminal .ack e = e.getLsbD 1 ∧ terminal .nak e = e.getLsbD 2 ∧
    terminal .other e = false ∧ terminal .noopc e = false) ∧
  outcomeOf .freq = some .data ∧ outcomeOf .ack = some .ack ∧ outcomeOf .nak = some .nak ∧
  outcomeOf .other = none ∧ outcomeOf .noopc = none

/-! ### Host commands -/

/-- NOP (R86): code 000; idle, no state changes at all; busy, `CMDERR` and nothing else. -/
def Obligations.NopChangesNothing : Prop :=
  (∀ w : Word, w.toNat % 8 = 0 → decode (.cmd w) = .ok .nop) ∧
  ∀ s : State,
    (s.status.busy = false → exec .nop s = .next s) ∧
    (s.status.busy = true → exec .nop s = .next { s with status := { s.status with cmderr := true } })

/-- The reserved codes 4 to 7 (R70): none is another command's, and each sets `CMDERR` and does nothing else. -/
def Obligations.ReservedCodeSetsCmderrOnly : Prop :=
  (∀ w : Word, (∃ lo, decode (.cmd w) = .ok (.cmdReserved lo)) ↔ 4 ≤ w.toNat % 8) ∧
  ∀ (s : State) (lo : BitVec 2), exec (.cmdReserved lo) s = .next { s with status := { s.status with cmderr := true } }

/-- SEND and XACT with `TX_LEN > BMAX` are refused (R85): `CMDERR` and nothing else. -/
def Obligations.OversizeTransmitRefused : Prop :=
  ∀ s : State, s.status.busy = false → s.lmax - 2 < s.txLen →
    exec .send s = .next { s with status := { s.status with cmderr := true } } ∧
    exec .xact s = .next { s with status := { s.status with cmderr := true } }

/-- A command written while one runs (R13(b), R138, R209): `CMDERR` and nothing else. -/
def Obligations.BusyRefusesEveryCommand : Prop :=
  ∀ s : State, s.status.busy = true →
    exec .send s = .next { s with status := { s.status with cmderr := true } } ∧
    exec .rdf s = .next { s with status := { s.status with cmderr := true } } ∧
    exec .xact s = .next { s with status := { s.status with cmderr := true } }

/-- The acceptance of XACT (R126), seen when the environment does nothing after it: the whole next state. -/
def Obligations.XactAcceptance : Prop :=
  ∀ s : State, s.status.busy = false → s.txLen ≤ s.lmax - 2 → s.inbox = [] →
    exec .xact s = .next { s with
      status := { s.status with busy := true, done := false, uxseen := false }
      malcnt := 0, result := ⟨.none, none, false⟩, resTo := 0, resFrom := 0, resLen := 0
      curop := .xact, opst := .tx, txidx := 0, dlcnt := s.deadline, cmdCount := s.cmdCount + 1 }

/-- The acceptance of RDF (R104) with nothing to read yet: the whole next state, the reader at its start (R91) with its first byte
read pending (R42). -/
def Obligations.RdfAcceptance : Prop :=
  ∀ s : State, s.status.busy = false → s.rxq = [] → s.inbox = [] →
    exec .rdf s = .next { s with
      status := { s.status with busy := true, done := false, uxseen := false }
      malcnt := 0, result := ⟨.none, none, false⟩, resTo := 0, resFrom := 0, resLen := 0
      curop := .rdf, opst := .rd, rs := .hunt1, blen := 0, rtcnt := s.rdtmo, cmdCount := s.cmdCount + 1 }

/-- SEND (R84) with a transport that accepts every byte: the whole next state. The frame is put once, the outcome is SENT,
nothing is read. A never-written element of TX_BODY is sent as the free value of the new command (log 3).
The block spends no time of its own before DONE (`prompt`, R234); LagTickSparesReadTimeout says what one that does. -/
def Obligations.SendPutsFrameAndEndsSent : Prop :=
  ∀ (s : State) (rest : List Stimulus), s.status.busy = false → s.prompt → s.txLen ≤ s.lmax - 2 →
    s.inbox = List.replicate (s.txLen + 5) Stimulus.txReady ++ rest →
    exec .send s = .next { s with
      status := { s.status with busy := false, done := true, uxseen := false }
      malcnt := 0, result := ⟨.sent, none, false⟩, resTo := 0, resFrom := 0, resLen := 0
      txidx := s.txLen + 5, curop := .none, opst := .idle, cmdCount := s.cmdCount + 1, inbox := rest
      tx := s.tx ++ encodeFrame s.txTo s.txFrom
        (s.txBody.slice (Config.unwrittenTxByte (s.cmdCount + 1)) 0 s.txLen) }

/-- SEND whatever the transport's delays (R41, R84, R87): among any ticks, quiet cycles and arriving bytes, as soon as the
transport has accepted as many bytes as the frame has, the frame stands on TX once, contiguous, the outcome is SENT, and every
byte received meanwhile is still unread (R43). A transport that never accepts a byte keeps the command busy for ever, whatever
else it and the time base do (R235).
The block spends no time of its own before DONE (`prompt`, R234); LagTickSparesReadTimeout says what one that does. -/
def Obligations.SendToleratesEveryDelay : Prop :=
  (∀ (s : State) (es rest : List Stimulus), s.status.busy = false → s.prompt → s.txLen ≤ s.lmax - 2 →
    (∀ e ∈ es, e.isTransport = true) → es.count .txReady = s.txLen + 4 →
    s.inbox = es ++ Stimulus.txReady :: rest →
    exec .send s = .next { s with
      status := { s.status with busy := false, done := true, uxseen := false }
      malcnt := 0, result := ⟨.sent, none, false⟩, resTo := 0, resFrom := 0, resLen := 0
      txidx := s.txLen + 5, curop := .none, opst := .idle, cmdCount := s.cmdCount + 1, inbox := rest
      ticks := s.ticks + es.countP Stimulus.isTick
      rxq := s.rxq ++ es.flatMap Stimulus.bytes
      tx := s.tx ++ encodeFrame s.txTo s.txFrom
        (s.txBody.slice (Config.unwrittenTxByte (s.cmdCount + 1)) 0 s.txLen) }) ∧
  (∀ (s : State) (env : Nat → Stimulus), s.opst = .tx → s.status.busy = true → s.inbox = [] →
    (∀ i : Nat, (env i).isTransport = true ∧ env i ≠ .txReady) →
    ∀ n : Nat, (streamRun env s n).status = s.status ∧ (streamRun env s n).opst = .tx ∧ (streamRun env s n).tx = s.tx)

/-- Whatever happens in a step, nothing but the next bytes of the running command's frame is put on TX (R41, R87, R129): the
stream is only appended to, from the frame's byte `TXIDX` on, or, when the step accepts a SEND or XACT, from its first byte. -/
def Obligations.OnlyFrameBytesAreTransmitted : Prop :=
  ∀ s t : State, s.Inv → step s = .next t →
    t.tx = s.tx ∨
    (s.opst = .tx ∧ t.tx = s.tx ++ (s.txFrame.drop s.txidx).take (t.txidx - s.txidx)) ∨
    (s.status.busy = false ∧ t.cmdCount = s.cmdCount + 1 ∧
      (∃ (w : Word) (es : List Stimulus), s.inbox = .write ⟨0, 0⟩ w :: es ∧ (decodeCmd w = .send ∨ decodeCmd w = .xact)) ∧
      t.tx = s.tx ++ (encodeFrame s.txTo s.txFrom
        (s.txBody.slice (Config.unwrittenTxByte (s.cmdCount + 1)) 0 s.txLen)).take t.txidx)

/-- RDF finds a frame behind noise as R103 admits it (with one `FE` after it, no two `FE` side by side): the whole outcome, and the
frame in the result frame registers (R103, R104). The bytes the transport already holds are read first, in order (R43, R230): the
frame may lie in them whole, in part or not at all, and what follows it stays unread.
Held bytes are read in the step of the event before them, by the model's choice (log 10).
The block spends no time of its own before DONE (`prompt`, R234); LagTickSparesReadTimeout says what one that does. -/
def Obligations.RdfFindsFrameBehindNoise : Prop :=
  ∀ (s : State) (z : List Byte) (dst src : Byte) (body left : List Byte),
    s.status.busy = false → s.prompt → noPreamblePair (z ++ [0xFE]) = true →
    (dst :: src :: body).all plain = true → body.length + 2 ≤ s.lmax →
    let t : State := { s with
      status := { s.status with busy := false, done := true, uxseen := false }
      malcnt := 0, result := ⟨.frame, some (classify ⟨dst, src, body⟩), true⟩
      resTo := dst, resFrom := src, resLen := body.length, resBody := s.resBody.writeList 0 body
      rs := .accum, buf := s.buf.writeList 0 (dst :: src :: body), blen := body.length + 2, rtcnt := s.rdtmo
      curop := .none, opst := .idle, cmdCount := s.cmdCount + 1, rxq := left }
    (s.rxq = z ++ encodeFrame dst src body ++ left → exec .rdf s = .next t) ∧
    (∀ (bs : List Byte) (rest : List Stimulus), s.rxq ++ bs = z ++ encodeFrame dst src body ++ left →
      s.rxq.length < (z ++ encodeFrame dst src body).length → s.inbox = .rx bs :: rest →
      exec .rdf s = .next { t with inbox := rest })

/-- The counterpart in R103: noise that ends in a lone `FE` shifts the frame by one byte. The frame delivered has `to = FE`.
The block spends no time of its own before DONE (`prompt`, R234); LagTickSparesReadTimeout says what one that does. -/
def Obligations.LoneFEBeforeFrameShiftsIt : Prop :=
  ∀ (s : State) (z : List Byte) (dst src : Byte) (body : List Byte) (rest : List Stimulus),
    s.status.busy = false → s.prompt → s.rxq = [] → noPreamblePair (z ++ [0xFE]) = true →
    (dst :: src :: body).all plain = true → body.length + 3 ≤ s.lmax →
    s.inbox = Stimulus.rx (z ++ [0xFE] ++ encodeFrame dst src body) :: rest →
    ∃ t, exec .rdf s = .next t ∧ t.result = ⟨.frame, some (classify ⟨0xFE, dst, src :: body⟩), true⟩ ∧
      t.resTo = 0xFE ∧ t.resFrom = dst ∧ t.resBodyBytes = src :: body ∧ t.rxq = [] ∧ t.inbox = rest

/-- RDF on a silent line ends with TIMEOUT after exactly `RDTMO` ticks (R42, R104, R233). The block
spends no time of its own before DONE (`prompt`, R234); LagTickSparesReadTimeout says what one that does. -/
def Obligations.RdfTimesOutAfterExactlyRdtmoTicks : Prop :=
  ∀ (s : State) (n : Nat), s.status.busy = false → s.prompt → s.rxq = [] → s.rdtmo.toNat < n → s.inbox = silentCycles n →
    ∃ t, exec .rdf s = .next t ∧ t.status.busy = false ∧ t.status.done = true ∧ t.result = ⟨.timeout, none, false⟩ ∧
      t.resTo = 0 ∧ t.resFrom = 0 ∧ t.resLen = 0 ∧ t.malcnt = 0 ∧ t.tx = s.tx ∧
      t.ticks = s.ticks + s.rdtmo.toNat

/-- XACT answered by a terminal frame (R127, R129, R130): the whole next state, from the command to its outcome. The request is
put once, then the frame is read, behind noise as R103 admits it and the bytes the transport already holds first (R43, R230); DATA
keeps the frame, ACK and NAK keep none.
Held bytes are read in the step of the event before them, by the model's choice (log 10).
The block spends no time of its own before DONE (`prompt`, R234); LagTickSparesReadTimeout says what one that does. -/
def Obligations.XactEndsOnTerminalFrame : Prop :=
  ∀ (s : State) (z : List Byte) (dst src : Byte) (body left : List Byte) (k : Kind) (rest : List Stimulus),
    s.status.busy = false → s.prompt → s.txLen ≤ s.lmax - 2 → noPreamblePair (z ++ [0xFE]) = true →
    (dst :: src :: body).all plain = true → body.length + 2 ≤ s.lmax →
    terminal (classify ⟨dst, src, body⟩) s.expect = true → outcomeOf (classify ⟨dst, src, body⟩) = some k →
    let t : State := { s with
      status := { s.status with busy := false, done := true, uxseen := false }
      malcnt := 0
      result := if k = .data then ⟨.data, some .freq, true⟩ else ⟨k, none, false⟩
      resTo := if k = .data then dst else 0
      resFrom := if k = .data then src else 0
      resLen := if k = .data then body.length else 0
      resBody := if k = .data then s.resBody.writeList 0 body else s.resBody
      rs := .accum, buf := s.buf.writeList 0 (dst :: src :: body), blen := body.length + 2, rtcnt := s.rdtmo
      dlcnt := s.deadline, txidx := s.txLen + 5, curop := .none, opst := .idle, cmdCount := s.cmdCount + 1
      inbox := rest, rxq := left
      tx := s.tx ++ encodeFrame s.txTo s.txFrom
        (s.txBody.slice (Config.unwrittenTxByte (s.cmdCount + 1)) 0 s.txLen) }
    (s.rxq = z ++ encodeFrame dst src body ++ left →
      s.inbox = List.replicate (s.txLen + 5) Stimulus.txReady ++ rest → exec .xact s = .next t) ∧
    (∀ bs : List Byte, s.rxq ++ bs = z ++ encodeFrame dst src body ++ left →
      s.rxq.length < (z ++ encodeFrame dst src body).length →
      s.inbox = List.replicate (s.txLen + 5) Stimulus.txReady ++ Stimulus.rx bs :: rest → exec .xact s = .next t)

/-- The time bound on a silent line (R132, R134, R137): with a transmission of `d` ticks, wherever they fall among its accepted
bytes, the transaction ends with TIMEOUT, not before the deadline and not later than one read timeout after the later of the
deadline and the end of the transmission. The request was put once. The block spends no time of its own before
the deadline check and DONE (`prompt`, R234); LagTickSparesReadTimeout says what one that does. -/
def Obligations.XactOnSilentLineEndsWithinBound : Prop :=
  ∀ (s : State) (es : List Stimulus) (n : Nat), s.status.busy = false → s.prompt → s.txLen ≤ s.lmax - 2 → s.rxq = [] →
    (∀ e ∈ es, e.isSilent = true) → es.count .txReady = s.txLen + 4 → s.deadline.toNat + s.rdtmo.toNat < n →
    s.inbox = es ++ Stimulus.txReady :: silentCycles n →
    let d := es.countP Stimulus.isTick
    ∃ t, exec .xact s = .next t ∧ t.status.busy = false ∧ t.status.done = true ∧ t.result = ⟨.timeout, none, false⟩ ∧
      t.status.uxseen = false ∧ t.malcnt = 0 ∧
      t.tx = s.tx ++ encodeFrame s.txTo s.txFrom
        (s.txBody.slice (Config.unwrittenTxByte (s.cmdCount + 1)) 0 s.txLen) ∧
      s.ticks + s.deadline.toNat ≤ t.ticks ∧ t.ticks ≤ s.ticks + max s.deadline.toNat d + s.rdtmo.toNat

/-- How a running XACT can end (R127, R130, R132, R139, R190, R191): by the reset input, with no outcome and DONE 0 (R221); else
with DONE 1, and only with DATA, ACK or NAK that EXPECT selects, or, the deadline counter at 0, with UNEXPECTED when a frame was
recorded and TIMEOUT when none was. -/
def Obligations.XactEndsOnlyInItsOutcomes : Prop :=
  ∀ s t : State, s.Inv → s.curop = .xact → step s = .next t → t.status.busy = false →
    ((∃ es, s.inbox = .reset :: es) ∧ t.result.kind = .none ∧ t.status.done = false) ∨
    (t.status.done = true ∧
      ((t.result.kind = .data ∧ s.expect.getLsbD 0 = true) ∨
       (t.result.kind = .ack ∧ s.expect.getLsbD 1 = true) ∨
       (t.result.kind = .nak ∧ s.expect.getLsbD 2 = true) ∨
       (t.result.kind = .unexpected ∧ t.dlcnt = 0 ∧ t.status.uxseen = true ∧ t.result.valid = true) ∨
       (t.result.kind = .timeout ∧ t.dlcnt = 0 ∧ t.status.uxseen = false ∧ t.result.valid = false)))

/-- The operands of a running command cannot change (R13(b), R53): whatever the step, while the block is busy, the operand
registers and the interrupt enable stay, but for a reset. -/
def Obligations.BusyKeepsOperands : Prop :=
  ∀ (s t : State) (e : Stimulus) (es : List Stimulus), s.status.busy = true → s.inbox = e :: es → e ≠ .reset →
    step s = .next t →
    t.lmax = s.lmax ∧ t.ie = s.ie ∧ t.expect = s.expect ∧ t.rdtmo = s.rdtmo ∧ t.deadline = s.deadline ∧
    t.txTo = s.txTo ∧ t.txFrom = s.txFrom ∧ t.txLen = s.txLen ∧ t.txBody = s.txBody ∧ t.cmdCount = s.cmdCount

/-! ### The reader, byte by byte -/

/-- `HUNT1` and `HUNT2` (R92, R93, R95, R96): what the reader does with any byte, and that it does it in the step in which the byte
arrives. Nothing but `RS` changes; the read-timeout counter, which R42 restarts for the next byte read, is left open here. -/
def Obligations.HuntStepsLookForTwoPreambles : Prop :=
  (∀ (s : State) (b : Byte), s.rs = .hunt1 →
    readByte b s = { s with rs := if b = 0xFE then .hunt2 else .hunt1, rtcnt := (readByte b s).rtcnt }) ∧
  (∀ (s : State) (b : Byte), s.rs = .hunt2 →
    readByte b s = { s with rs := if b = 0xFE then .accum else .hunt1, rtcnt := (readByte b s).rtcnt }) ∧
  (∀ (s : State) (b : Byte) (es : List Stimulus), s.reading → s.rs ≠ .accum → s.rxq = [] → s.inbox = .rx [b] :: es →
    step s = .next (readByte b { s with inbox := es }))

/-- `ACCUM` with room (R99, R102): any byte but the terminator is stored at `BLEN`, `FE` like any other, no other byte of `BUF`
changes, and nothing else does; the read-timeout counter, which R42 restarts for the next byte read, is left open here. -/
def Obligations.AccumStoresEveryByteButTerminator : Prop :=
  ∀ (s : State) (b : Byte) (es : List Stimulus), s.reading → s.rs = .accum → s.rxq = [] → b ≠ 0xFD → s.blen < s.lmax →
    s.inbox = .rx [b] :: es →
    ∃ t, step s = .next t ∧
      t = { s with buf := t.buf, blen := s.blen + 1, rtcnt := t.rtcnt, inbox := es } ∧
      (∀ i : Nat, t.buf.read? i = if i = s.blen then some b else s.buf.read? i)

/-- The reader refines the pseudocode of R108, from the start of an invocation and on any bytes. For an RDF the block ends as
`ReadFrame` ends, with the same frame, the same bytes left, `MALCNT` and `OVF` as R98 and R100 say, or stands where `ReadFrame`
stands. For an XACT it does with what `ReadFrame` returns what R127 says and reads the bytes left by the next invocation; until
then it has only read: `RS`, `BUF`, `BLEN`, `RTCNT`, `MALCNT` and `OVF` (R90). The model's own choices in it: `RTCNT` is `RDTMO` in the
step that took a byte, since the next byte read (R42) starts in it (log 10). The block spends no time of its own before it goes on
with what `ReadFrame` returned (`lags = false`, R234); LagTickSparesReadTimeout says what one that does. -/
def Obligations.ReaderRefinesReadFrame : Prop :=
  (∀ (s : State) (bytes : List Byte), s.readerFresh → s.lags = false → s.curop = .rdf →
    let t := arrive bytes s
    match readFrame s.lmax bytes with
    | .ended (.frame f) ovf rest =>
        ovf = false ∧ t.rxq = rest ∧ t.opst = .idle ∧ t.result = ⟨.frame, some (classify f), true⟩ ∧ t.resFrame = f ∧
        t.malcnt = s.malcnt ∧ t.status = { s.status with busy := false, done := true }
    | .ended .malformed ovf rest =>
        t.rxq = rest ∧ t.opst = .idle ∧ t.result = ⟨.malformed, none, false⟩ ∧ t.resLen = 0 ∧ t.malcnt = satInc s.malcnt ∧
        t.status = { s.status with busy := false, done := true, ovf := s.status.ovf || ovf }
    | .ended .timeout _ _ => False
    | .pending rs acc =>
        t.rxq = [] ∧ t.opst = .rd ∧ t.rs = rs ∧ (rs = .accum → t.span = acc) ∧ t.result = s.result ∧ t.malcnt = s.malcnt ∧
        t.status = s.status) ∧
  (∀ (s : State) (bytes : List Byte), s.readerFresh → s.lags = false → s.curop = .xact →
    let t := arrive bytes s
    match readFrame s.lmax bytes with
    | .ended r ovf rest =>
        ∃ u : State, t = takeBytes rest (xactInvocationEnd r u) ∧
          u = { s with
            rxq := u.rxq, rs := u.rs, buf := u.buf, blen := u.blen, rtcnt := u.rtcnt
            malcnt := if r = .malformed then satInc s.malcnt else s.malcnt
            status := { s.status with ovf := s.status.ovf || ovf } }
    | .pending rs acc =>
        (rs = .accum → t.span = acc) ∧
        t = { s with rs := rs, buf := t.buf, blen := acc.length, rtcnt := if bytes = [] then s.rtcnt else s.rdtmo })

/-- Noise leaves no trace (R46, R92, R96, R193): bytes with no `FE FE` change nothing but whether the last one was an `FE` and
the restarted read (R42; that it restarts in this step is the model's choice, log 10). And it can go on for ever (R228): under an
endless alternation of noise bytes and ticks an RDF or XACT stays busy, and whatever the time its status, every result register,
the count of malformed frames and the transmit stream are as they were; an XACT also after its deadline has passed. -/
def Obligations.NoiseLeavesNoTrace : Prop :=
  (∀ (s : State) (z : List Byte) (es : List Stimulus), s.readerFresh → z ≠ [] → noPreamblePair z = true →
    s.inbox = .rx z :: es →
    step s = .next { s with
      rs := if z.getLast? = some 0xFE then .hunt2 else .hunt1, rtcnt := s.rdtmo, inbox := es }) ∧
  (∀ (s : State) (z : Nat → Byte), s.readerFresh → s.status.busy = true → s.rdtmo ≠ 0 → s.inbox = [] →
    (∀ i : Nat, ¬(z i = 0xFE ∧ z (i + 1) = 0xFE)) →
    ∀ n : Nat,
      let t := streamRun (fun i => if i % 2 = 0 then .rx [z (i / 2)] else .tick) s n
      t.status = s.status ∧ t.curop = s.curop ∧ t.opst = .rd ∧ t.result = s.result ∧ t.resTo = s.resTo ∧ t.resFrom = s.resFrom ∧
        t.resLen = s.resLen ∧ t.resBody = s.resBody ∧ t.malcnt = s.malcnt ∧ t.tx = s.tx ∧ t.ticks = s.ticks + n / 2 ∧
        (s.curop = .xact → s.dlcnt.toNat ≤ n / 2 → t.dlcnt = 0))

/-- `NoData` in every step of the reader ends an RDF with TIMEOUT and delivers nothing (R94, R97, R101): the whole next state.
The block spends no time of its own before DONE (`prompt`, R234); LagTickSparesReadTimeout says what one that does. -/
def Obligations.NoDataEndsRdfWithTimeout : Prop :=
  ∀ (s : State) (es : List Stimulus), s.opst = .rd → s.prompt → s.curop = .rdf → s.rtcnt = 0 →
    s.rxq = [] → s.inbox = .quiet :: es →
    step s = .next { s with
      status := { s.status with busy := false, done := true }
      result := ⟨.timeout, none, false⟩, resTo := 0, resFrom := 0, resLen := 0
      curop := .none, opst := .idle, inbox := es }

/-- `NoData` within an XACT (R132, R134): before the deadline a new reader invocation, the partial frame dropped; at the deadline
the end, UNEXPECTED with the recorded frame kept or TIMEOUT with none. The whole next state each time. That the new
invocation restarts the read timeout (R42) in the same step is the model's choice (log 10).
The block spends no time of its own before the deadline check (R234); LagTickSparesReadTimeout says what one that does. -/
def Obligations.NoDataWithinXactChecksDeadline : Prop :=
  ∀ (s : State) (es : List Stimulus), s.opst = .rd → s.prompt → s.curop = .xact → s.rtcnt = 0 →
    s.rxq = [] → s.inbox = .quiet :: es →
    (s.dlcnt ≠ 0 → step s = .next { s with rs := .hunt1, blen := 0, rtcnt := s.rdtmo, inbox := es }) ∧
    (s.dlcnt = 0 → s.status.uxseen = true → step s = .next { s with
      status := { s.status with busy := false, done := true }
      result := { s.result with kind := .unexpected }, curop := .none, opst := .idle, inbox := es }) ∧
    (s.dlcnt = 0 → s.status.uxseen = false → step s = .next { s with
      status := { s.status with busy := false, done := true }
      result := ⟨.timeout, none, false⟩, resTo := 0, resFrom := 0, resLen := 0
      curop := .none, opst := .idle, inbox := es })

/-- Overflow (R100): one byte more than the buffer holds sets `OVF`, counts, and the byte is lost. It ends an RDF with MALFORMED; in
an XACT (R133) it is noise: before the deadline a new invocation starts, at the deadline the XACT ends, UNEXPECTED with the recorded
frame kept or TIMEOUT (R132, R201). The whole next state each time. That the new invocation restarts the read timeout (R42) in the
same step is the model's choice (log 10).
The block spends no time of its own before the deadline check (R234); LagTickSparesReadTimeout says what one that does. -/
def Obligations.OverflowEndsRdfMalformed : Prop :=
  ∀ (s : State) (b : Byte) (es : List Stimulus), s.opst = .rd → s.prompt → s.rs = .accum → s.blen = s.lmax →
    s.rxq = [] → b ≠ 0xFD → s.inbox = .rx [b] :: es →
    (s.curop = .rdf → step s = .next { s with
      status := { s.status with busy := false, done := true, ovf := true }
      malcnt := satInc s.malcnt, result := ⟨.malformed, none, false⟩, resTo := 0, resFrom := 0, resLen := 0
      curop := .none, opst := .idle, inbox := es }) ∧
    (s.curop = .xact → s.dlcnt ≠ 0 → step s = .next { s with
      status := { s.status with ovf := true }
      malcnt := satInc s.malcnt, rs := .hunt1, blen := 0, rtcnt := s.rdtmo, inbox := es }) ∧
    (s.curop = .xact → s.dlcnt = 0 → s.status.uxseen = true → step s = .next { s with
      status := { s.status with busy := false, done := true, ovf := true }
      malcnt := satInc s.malcnt, result := { s.result with kind := .unexpected }, curop := .none, opst := .idle, inbox := es }) ∧
    (s.curop = .xact → s.dlcnt = 0 → s.status.uxseen = false → step s = .next { s with
      status := { s.status with busy := false, done := true, ovf := true }
      malcnt := satInc s.malcnt, result := ⟨.timeout, none, false⟩, resTo := 0, resFrom := 0, resLen := 0
      curop := .none, opst := .idle, inbox := es })

/-! ### Frames arriving -/

/-- A frame that arrives while no byte read is pending waits in the transport and changes nothing of the block (R43), whichever
frame it is. -/
def Obligations.FrameWaitsWhileNotReading : Prop :=
  ∀ (s : State) (i : Instr), isFrame i = true → ¬ s.reading → exec i s = .next { s with rxq := s.rxq ++ i.wireBytes }

/-- FREQ_REPORT and FREQ_QUERY in an XACT that expects DATA (R130, R146, R147, R227): DATA with the frame, at once and without a
look at the deadline (R136, R201). The whole next state.
The block spends no time of its own before DONE (`prompt`, R234); LagTickSparesReadTimeout says what one that does. -/
def Obligations.FreqFramesEndProbeWithData : Prop :=
  ∀ (s : State) (dst src : Byte), s.readerFresh → s.lags = false → s.curop = .xact → s.expect.getLsbD 0 = true → 10 ≤ s.lmax →
    ((Instr.freqQuery dst src).wellFormed = true →
      exec (.freqQuery dst src) s = .next { s.heard [dst, src, 0x03] with
        status := { s.status with busy := false, done := true }
        result := ⟨.data, some .freq, true⟩, resTo := dst, resFrom := src, resLen := 1
        resBody := s.resBody.writeList 0 [0x03], curop := .none, opst := .idle }) ∧
    (∀ payload : List Byte, (Instr.freqReport dst src payload).wellFormed = true → payload.length + 3 ≤ s.lmax →
      exec (.freqReport dst src payload) s = .next { s.heard (dst :: src :: 0x03 :: payload) with
        status := { s.status with busy := false, done := true }
        result := ⟨.data, some .freq, true⟩, resTo := dst, resFrom := src, resLen := payload.length + 1
        resBody := s.resBody.writeList 0 (0x03 :: payload), curop := .none, opst := .idle })

/-- ACK in an XACT that expects it (R130, R150): the outcome ACK, no frame kept, a recorded frame discarded, `UXSEEN` as it was,
at once and without a look at the deadline (R136). The whole next state.
The block spends no time of its own before DONE (`prompt`, R234); LagTickSparesReadTimeout says what one that does. -/
def Obligations.AckEndsWait : Prop :=
  ∀ (s : State) (dst src : Byte) (extra : List Byte), s.readerFresh → s.lags = false →
    s.curop = .xact → s.expect.getLsbD 1 = true →
    (Instr.ack dst src extra).wellFormed = true → extra.length + 3 ≤ s.lmax →
    exec (.ack dst src extra) s = .next { s.heard (dst :: src :: 0xFB :: extra) with
      status := { s.status with busy := false, done := true }
      result := ⟨.ack, none, false⟩, resTo := 0, resFrom := 0, resLen := 0, curop := .none, opst := .idle }

/-- NAK in an XACT that expects it (R130, R151): the outcome NAK, no frame kept. The whole next state.
The block spends no time of its own before DONE (`prompt`, R234); LagTickSparesReadTimeout says what one that does. -/
def Obligations.NakEndsWait : Prop :=
  ∀ (s : State) (dst src : Byte) (extra : List Byte), s.readerFresh → s.lags = false →
    s.curop = .xact → s.expect.getLsbD 2 = true →
    (Instr.nak dst src extra).wellFormed = true → extra.length + 3 ≤ s.lmax →
    exec (.nak dst src extra) s = .next { s.heard (dst :: src :: 0xFA :: extra) with
      status := { s.status with busy := false, done := true }
      result := ⟨.nak, none, false⟩, resTo := 0, resFrom := 0, resLen := 0, curop := .none, opst := .idle }

/-- The frames of class OTHER in an XACT, whatever EXPECT (R116, R131, R148, R149, R152): SET_DATE, SET_TIME_HM, SET_TIME_HMS and
OTHER are recorded; before the deadline a new invocation starts, at the deadline the XACT ends with UNEXPECTED carrying that
frame (R201). `i` is the instruction and `body` its body. The whole next state. That the new invocation restarts the
read timeout (R42) in the same step is the model's choice (log 10).
The block spends no time of its own before the deadline check (R234); LagTickSparesReadTimeout says what one that does. -/
def Obligations.OtherFramesAreRecorded : Prop :=
  ∀ (s : State) (dst src : Byte) (body : List Byte) (i : Instr), s.readerFresh → s.lags = false → s.curop = .xact → 10 ≤ s.lmax →
    body.length + 2 ≤ s.lmax → i.wellFormed = true →
    ((∃ sub op yyHi yyLo mm dd, i = .setDate dst src sub op yyHi yyLo mm dd ∧
        body = [0x1A, 0x05, sub, op, yyHi, yyLo, mm, dd]) ∨
      (∃ sub op hh mm, i = .setTimeHM dst src sub op hh mm ∧ body = [0x1A, 0x05, sub, op, hh, mm]) ∨
      (∃ sub op hh mm ss, i = .setTimeHMS dst src sub op hh mm ss ∧ body = [0x1A, 0x05, sub, op, hh, mm, ss]) ∨
      (∃ op rest, i = .other dst src op rest ∧ body = op :: rest)) →
    exec i s = .next (
      if s.dlcnt = 0 then { s.heard (dst :: src :: body) with
        status := { s.status with busy := false, done := true, uxseen := true }
        result := ⟨.unexpected, some .other, true⟩, resTo := dst, resFrom := src, resLen := body.length
        resBody := s.resBody.writeList 0 body, curop := .none, opst := .idle }
      else { s.heard (dst :: src :: body) with
        status := { s.status with uxseen := true }
        result := { s.result with cls := some .other, valid := true }, resTo := dst, resFrom := src, resLen := body.length
        resBody := s.resBody.writeList 0 body, rs := .hunt1, blen := 0 })

/-- NOOPC in an XACT (R114, R116, R131): never terminal, recorded with class NOOPC and an empty body. The whole next state.
That a new invocation restarts the read timeout (R42) in the same step is the model's choice (log 10).
The block spends no time of its own before the deadline check (R234); LagTickSparesReadTimeout says what one that does. -/
def Obligations.NoopcFrameIsRecorded : Prop :=
  ∀ (s : State) (dst src : Byte), s.readerFresh → s.lags = false → s.curop = .xact → 10 ≤ s.lmax →
    (Instr.noopc dst src).wellFormed = true →
    exec (.noopc dst src) s = .next (
      if s.dlcnt = 0 then { s.heard [dst, src] with
        status := { s.status with busy := false, done := true, uxseen := true }
        result := ⟨.unexpected, some .noopc, true⟩, resTo := dst, resFrom := src, resLen := 0
        curop := .none, opst := .idle }
      else { s.heard [dst, src] with
        status := { s.status with uxseen := true }
        result := { s.result with cls := some .noopc, valid := true }, resTo := dst, resFrom := src, resLen := 0
        rs := .hunt1, blen := 0 })

/-- UNDERSIZED (R98, R111, R133): counted, saturating at 255, and never classified or recorded. An RDF ends with MALFORMED; an
XACT before its deadline starts a new invocation, at its deadline it ends, UNEXPECTED with a frame recorded earlier or TIMEOUT
(R132, R201). The whole next state each time. That the new invocation restarts the read timeout (R42) in the same step is the
model's choice (log 10).
The block spends no time of its own before the deadline check (R234); LagTickSparesReadTimeout says what one that does. -/
def Obligations.UndersizedSpanIsCountedOnly : Prop :=
  ∀ (s : State) (x : Option Byte), s.readerFresh → s.lags = false → 10 ≤ s.lmax → (Instr.undersized x).wellFormed = true →
    let t : State := { s.heard x.toList with malcnt := if s.malcnt = 255 then 255 else s.malcnt + 1 }
    (s.curop = .rdf → exec (.undersized x) s = .next { t with
      status := { s.status with busy := false, done := true }
      result := ⟨.malformed, none, false⟩, resTo := 0, resFrom := 0, resLen := 0, curop := .none, opst := .idle }) ∧
    (s.curop = .xact → s.dlcnt ≠ 0 → exec (.undersized x) s = .next { t with rs := .hunt1, blen := 0 }) ∧
    (s.curop = .xact → s.dlcnt = 0 → s.status.uxseen = true → exec (.undersized x) s = .next { t with
      status := { s.status with busy := false, done := true }
      result := { s.result with kind := .unexpected }, curop := .none, opst := .idle }) ∧
    (s.curop = .xact → s.dlcnt = 0 → s.status.uxseen = false → exec (.undersized x) s = .next { t with
      status := { s.status with busy := false, done := true }
      result := ⟨.timeout, none, false⟩, resTo := 0, resFrom := 0, resLen := 0, curop := .none, opst := .idle })

/-- A frame of a class that can be terminal but that EXPECT does not select is recorded like any other frame (R116, R131;
90_conflicts.md C12): an ACK or NAK while only DATA is expected, a frequency report in an acknowledgement wait. Before the deadline
a new invocation starts, at the deadline the XACT ends with UNEXPECTED carrying that frame (R201). `i` is the instruction, `body` its
body, `c` its class. The whole next state. That the new invocation restarts the read timeout (R42) in the same step is the model's
choice (log 10).
The block spends no time of its own before the deadline check (R234); LagTickSparesReadTimeout says what one that does. -/
def Obligations.UnselectedAckIsRecorded : Prop :=
  ∀ (s : State) (dst src : Byte) (body : List Byte) (i : Instr) (c : FrameClass), s.readerFresh → s.lags = false → s.curop = .xact →
    body.length + 2 ≤ s.lmax → i.wellFormed = true →
    ((i = .freqQuery dst src ∧ body = [0x03] ∧ c = .freq ∧ s.expect.getLsbD 0 = false) ∨
      (∃ payload, i = .freqReport dst src payload ∧ body = 0x03 :: payload ∧ c = .freq ∧ s.expect.getLsbD 0 = false) ∨
      (∃ extra, i = .ack dst src extra ∧ body = 0xFB :: extra ∧ c = .ack ∧ s.expect.getLsbD 1 = false) ∨
      (∃ extra, i = .nak dst src extra ∧ body = 0xFA :: extra ∧ c = .nak ∧ s.expect.getLsbD 2 = false)) →
    exec i s = .next (
      if s.dlcnt = 0 then { s.heard (dst :: src :: body) with
        status := { s.status with busy := false, done := true, uxseen := true }
        result := ⟨.unexpected, some c, true⟩, resTo := dst, resFrom := src, resLen := body.length
        resBody := s.resBody.writeList 0 body, curop := .none, opst := .idle }
      else { s.heard (dst :: src :: body) with
        status := { s.status with uxseen := true }
        result := { s.result with cls := some c, valid := true }, resTo := dst, resFrom := src, resLen := body.length
        resBody := s.resBody.writeList 0 body, rs := .hunt1, blen := 0 })

/-- No address is examined (R117, R140): two frames that differ in `to` and `from` only leave the block alike, but for the
addresses and the buffers they are stored in. In a block that spends time of its own (R234) the frame stands in `due` meanwhile
(LagTickSparesReadTimeout). -/
def Obligations.AddressesDoNotMatter : Prop :=
  ∀ (s : State) (d1 s1 d2 s2 : Byte) (body : List Byte), 10 ≤ s.lmax → s.readerFresh → s.lags = false →
    (s.curop = .rdf ∨ s.curop = .xact) →
    (d1 :: s1 :: d2 :: s2 :: body).all plain = true →
    let t := arrive (encodeFrame d1 s1 body) s
    let u := arrive (encodeFrame d2 s2 body) s
    u = { t with resTo := u.resTo, resFrom := u.resFrom, buf := u.buf } ∧
    (∀ i : Nat, 2 ≤ i → t.buf.read? i = u.buf.read? i)

/-! ### Registers and the interrupt -/

/-- A host write while busy, other than to CMD, is ignored (R13(b)): nothing changes but that the access is over. -/
def Obligations.BusyIgnoresRegisterWrites : Prop :=
  ∀ (s : State) (n : RegNum) (d : Word) (es : List Stimulus), s.status.busy = true → n ≠ ⟨0, 0⟩ →
    s.inbox = .write n d :: es → step s = .next { s with inbox := es }

/-- A host read changes nothing of the block but the output `h_rdata` (R10, R13(a)), at any time, and returns what the register
holds. The count of reads is the model's own (log 4). -/
def Obligations.HostReadChangesNothing : Prop :=
  ∀ (s : State) (n : RegNum) (es : List Stimulus), s.inbox = .read n :: es →
    step s = .next { s with inbox := es, readCount := s.readCount + 1, hRdata := readValue (Reg.ofNum (s.lmax - 2) n) s }

/-- What the host reads (R14, R17, R18, R19, R20, R21, R23, R24, R25) by register number, with every reserved number of bank 0
and every bank above 2 reading 0 (R13(d)). A length of 2^32 or more reads as its low 32 bits by the model's choice (log 27). -/
def Obligations.RegisterReadValues : Prop :=
  ∀ s : State,
    let rd := fun bank index => readValue (Reg.ofNum (s.lmax - 2) ⟨bank, index⟩) s
    rd 0 0x00 = 0 ∧ (rd 0 0x01).toNat = (if s.ie then 1 else 0) ∧
    (rd 0 0x02).toNat = (if s.status.busy then 1 else 0) + (if s.status.done then 2 else 0) +
      (if s.status.uxseen then 4 else 0) + (if s.status.ovf then 8 else 0) + (if s.status.cmderr then 16 else 0) ∧
    (rd 0 0x03).toNat = s.expect.toNat ∧ rd 0 0x04 = s.rdtmo ∧ rd 0 0x05 = s.deadline ∧
    (rd 0 0x06).toNat = s.txTo.toNat ∧ (rd 0 0x07).toNat = s.txFrom.toNat ∧ (rd 0 0x08).toNat = s.txLen % 2 ^ 32 ∧
    (rd 0 0x09).toNat = s.result.kind.code.toNat + 16 * (classCode s.result.cls).toNat +
      (if s.result.valid then 128 else 0) ∧
    (rd 0 0x0A).toNat = s.resTo.toNat ∧ (rd 0 0x0B).toNat = s.resFrom.toNat ∧ (rd 0 0x0C).toNat = s.resLen % 2 ^ 32 ∧
    (rd 0 0x0D).toNat = s.malcnt.toNat ∧
    (∀ i, 0x0E ≤ i → rd 0 i = 0) ∧ (∀ bank i, 3 ≤ bank → rd bank i = 0) ∧
    (∀ i b, i < s.lmax - 2 → s.txBody.read? i = some b → (rd 1 i).toNat = b.toNat) ∧
    (∀ i b, i < s.lmax - 2 → s.result.valid = true → i < s.resLen → s.resBody.read? i = some b → (rd 2 i).toNat = b.toNat) ∧
    (∀ i, s.lmax - 2 ≤ i → rd 1 i = 0 ∧ rd 2 i = 0)

/-- What an idle host write does to each register (R13(c) to (e), R14, R16, R18 to R25): the whole next state for each number.
Read-only and reserved numbers are ignored. -/
def Obligations.IdleRegisterWrites : Prop :=
  ∀ (s : State) (d : Word) (es : List Stimulus) (n : RegNum), s.status.busy = false → s.inbox = .write n d :: es →
    (n = ⟨0, 1⟩ → step s = .next { s with ie := d.getLsbD 0, inbox := es }) ∧
    (n = ⟨0, 3⟩ → step s = .next { s with expect := d.setWidth 3, inbox := es }) ∧
    (n = ⟨0, 4⟩ → step s = .next { s with rdtmo := d, inbox := es }) ∧
    (n = ⟨0, 5⟩ → step s = .next { s with deadline := d, inbox := es }) ∧
    (n = ⟨0, 6⟩ → step s = .next { s with txTo := d.setWidth 8, inbox := es }) ∧
    (n = ⟨0, 7⟩ → step s = .next { s with txFrom := d.setWidth 8, inbox := es }) ∧
    (n = ⟨0, 8⟩ → s.lmax - 2 ≤ 255 → step s = .next { s with txLen := d.toNat % 256, inbox := es }) ∧
    (n.bank = 0 → 9 ≤ n.index → step s = .next { s with inbox := es }) ∧
    (n.bank = 1 → s.lmax - 2 ≤ n.index → step s = .next { s with inbox := es }) ∧
    (2 ≤ n.bank → step s = .next { s with inbox := es })

/-- A host write to TX_BODY (R22): the byte is at its index, every other byte of the buffer reads as before, and nothing else
changes. -/
def Obligations.TxBodyWriteStoresOneByte : Prop :=
  ∀ (s : State) (d : Word) (es : List Stimulus) (i : Nat), s.status.busy = false → i < s.lmax - 2 →
    s.inbox = .write ⟨1, i⟩ d :: es →
    ∃ t, step s = .next t ∧ t = { s with txBody := t.txBody, inbox := es } ∧
      (∀ a : Nat, t.txBody.read? a = if a = i then some (d.setWidth 8) else s.txBody.read? a) ∧
      (s.txBody.wf = true → t.txBody.wf = true)

/-- STATUS (R17): DONE, OVF and CMDERR are write-1-to-clear, BUSY and UXSEEN are read-only. The whole next state. -/
def Obligations.StatusWriteOneToClear : Prop :=
  ∀ (s : State) (d : Word) (es : List Stimulus), s.status.busy = false → s.inbox = .write ⟨0, 2⟩ d :: es →
    step s = .next { s with
      inbox := es
      status := ⟨s.status.busy, if d.getLsbD 1 then false else s.status.done, s.status.uxseen,
        if d.getLsbD 3 then false else s.status.ovf, if d.getLsbD 4 then false else s.status.cmderr⟩ }

/-- The interrupt (R199): the level DONE and IE; raised by an outcome when enabled, lowered by clearing DONE
and by the acceptance of the next command. -/
def Obligations.IrqFollowsDoneAndEnable : Prop :=
  (∀ s : State, s.irq = (s.status.done && s.ie)) ∧
  (∀ (k : Kind) (info : Info) (s : State), (raise k info s).irq = s.ie) ∧
  (∀ (op : CurOp) (s : State), (acceptCommand op s).irq = false) ∧
  (∀ (s : State) (d : Word) (es : List Stimulus) (t : State), s.status.busy = false → s.inbox = .write ⟨0, 2⟩ d :: es →
    d.getLsbD 1 = true → step s = .next t → t.irq = false)

/-- Raising an outcome (R191): the result registers by what it carries, the sequencer idle, BUSY 0, DONE 1, and nothing else;
`tx_valid` and `rx_ready` are low. The whole next state. -/
def Obligations.RaiseWritesResultAndIdles : Prop :=
  ∀ (s : State) (k : Kind),
    raise k .nothing s = { s with
      result := ⟨k, none, false⟩, resTo := 0, resFrom := 0, resLen := 0, curop := .none, opst := .idle
      status := { s.status with busy := false, done := true } } ∧
    (∀ f : Frame, raise k (.frame f) s = { s with
      result := ⟨k, some (classify f), true⟩, resTo := f.dst, resFrom := f.src, resLen := f.body.length
      resBody := s.resBody.writeList 0 f.body, curop := .none, opst := .idle
      status := { s.status with busy := false, done := true } }) ∧
    raise k .recorded s = { s with
      result := { s.result with kind := k }, curop := .none, opst := .idle
      status := { s.status with busy := false, done := true } } ∧
    (∀ info : Info, (raise k info s).txValid = false ∧ (raise k info s).rxReady = false)

/-! ### Time -/

/-- The timers at a tick (R27, R28, R33, R205): while a byte read that has not run out is pending, DLCNT (of an XACT) and RTCNT go
down by 1 and stop at 0; while the frame is transmitted only DLCNT does; while idle neither. A tick that meets a read that has run
out, no byte held, ends that read first (R42; the order is the model's, log 11): an RDF ends, an XACT goes on with a new read, which
the tick then counts for, or ends. That the new read has then begun is the model's choice (log 10). This last case is that of
a block that spends no time of its own (`prompt`, R234): in one that does, the tick counts before the deadline check
(LagTickSparesReadTimeout). The whole next state, with the model's count of ticks (log 13). -/
def Obligations.TickDrivesTheTwoTimers : Prop :=
  ∀ (s : State) (es : List Stimulus), s.inbox = .tick :: es →
    (s.reading → s.rtcnt ≠ 0 ∨ s.rxq ≠ [] → step s = .next { s with
      inbox := es, ticks := s.ticks + 1, rtcnt := if s.rtcnt ≠ 0 then s.rtcnt - 1 else 0
      dlcnt := if s.curop = .xact ∧ s.dlcnt ≠ 0 then s.dlcnt - 1 else s.dlcnt }) ∧
    (¬ s.reading → step s = .next { s with
      inbox := es, ticks := s.ticks + 1
      dlcnt := if s.curop = .xact ∧ s.dlcnt ≠ 0 then s.dlcnt - 1 else s.dlcnt }) ∧
    (s.opst = .rd → s.prompt → s.rtcnt = 0 → s.rxq = [] →
      (s.curop = .rdf → step s = .next { s with
        status := { s.status with busy := false, done := true }
        result := ⟨.timeout, none, false⟩, resTo := 0, resFrom := 0, resLen := 0
        curop := .none, opst := .idle, inbox := es, ticks := s.ticks + 1 }) ∧
      (s.curop = .xact → s.dlcnt ≠ 0 → step s = .next { s with
        rs := .hunt1, blen := 0, rtcnt := if s.rdtmo ≠ 0 then s.rdtmo - 1 else 0, dlcnt := s.dlcnt - 1
        inbox := es, ticks := s.ticks + 1 }) ∧
      (s.curop = .xact → s.dlcnt = 0 → s.status.uxseen = true → step s = .next { s with
        status := { s.status with busy := false, done := true }
        result := { s.result with kind := .unexpected }, curop := .none, opst := .idle, inbox := es, ticks := s.ticks + 1 }) ∧
      (s.curop = .xact → s.dlcnt = 0 → s.status.uxseen = false → step s = .next { s with
        status := { s.status with busy := false, done := true }
        result := ⟨.timeout, none, false⟩, resTo := 0, resFrom := 0, resLen := 0
        curop := .none, opst := .idle, inbox := es, ticks := s.ticks + 1 }))

/-- The block's own delays (R206, R234). A tick before a byte read has counted any, or while none is pending, is measured by DLCNT
and not by RTCNT. A block that spends time of its own (`lags`) stops where a reader invocation returns, before the deadline check
and before SENT: the step is then due, and whatever ticks come before it is taken count for DLCNT, so that the check sees them
(R132). Nothing else is different: what a block that spends no time does on an event, this one has done once the due steps are
taken. That such ticks, delays and steps are stimuli of their own is the model's choice (logs 10, 28). -/
def Obligations.LagTickSparesReadTimeout : Prop :=
  (∀ (s : State) (es : List Stimulus), s.inbox = .lagTick :: es → ¬ s.reading ∨ s.rtcnt = s.rdtmo →
    step s = .next { s with
      inbox := es, ticks := s.ticks + 1
      dlcnt := if s.curop = .xact ∧ s.dlcnt ≠ 0 then s.dlcnt - 1 else s.dlcnt }) ∧
  (∀ (s : State) (i : Instr) (dst src : Byte) (body : List Byte), s.lags = true → s.readerFresh → i.wellFormed = true →
    encode i = .wire (encodeFrame dst src body) → body.length + 2 ≤ s.lmax →
    exec i s = .next { s.heard (dst :: src :: body) with due := some (.returned (.frame ⟨dst, src, body⟩)) }) ∧
  (∀ (s : State) (x : Option Byte), s.lags = true → s.readerFresh → (Instr.undersized x).wellFormed = true → 1 ≤ s.lmax →
    exec (.undersized x) s = .next { s.heard x.toList with malcnt := satInc s.malcnt, due := some (.returned .malformed) }) ∧
  (∀ (s : State) (es : List Stimulus), s.lags = true → s.reading → s.rtcnt = 0 → s.rxq = [] →
    (s.inbox = .quiet :: es → step s = .next { s with due := some (.returned .timeout), inbox := es }) ∧
    (s.inbox = .tick :: es → step s = .next { s with
      due := some (.returned .timeout), inbox := es, ticks := s.ticks + 1
      dlcnt := if s.curop = .xact ∧ s.dlcnt ≠ 0 then s.dlcnt - 1 else s.dlcnt })) ∧
  (∀ (s : State) (es : List Stimulus), s.inbox = .settle :: es →
    (s.due = none → step s = .next { s with inbox := es }) ∧
    (s.due = some .sent → s.rxq = [] → step s = .next { s with
      status := { s.status with busy := false, done := true }
      result := ⟨.sent, none, false⟩, resTo := 0, resFrom := 0, resLen := 0
      curop := .none, opst := .idle, due := none, inbox := es }) ∧
    (s.due = some .check → s.rxq = [] →
      (s.dlcnt ≠ 0 → step s = .next { s with
        opst := .rd, rs := .hunt1, blen := 0, rtcnt := s.rdtmo, due := none, inbox := es }) ∧
      (s.dlcnt = 0 → s.status.uxseen = true → step s = .next { s with
        status := { s.status with busy := false, done := true }
        result := { s.result with kind := .unexpected }, curop := .none, opst := .idle, due := none, inbox := es }) ∧
      (s.dlcnt = 0 → s.status.uxseen = false → step s = .next { s with
        status := { s.status with busy := false, done := true }
        result := ⟨.timeout, none, false⟩, resTo := 0, resFrom := 0, resLen := 0
        curop := .none, opst := .idle, due := none, inbox := es })) ∧
    (s.curop = .rdf → s.rxq = [] →
      (∀ f : Frame, s.due = some (.returned (.frame f)) →
        step s = .next (raise .frame (.frame f) { s with due := none, inbox := es })) ∧
      (s.due = some (.returned .malformed) → step s = .next (raise .malformed .nothing { s with due := none, inbox := es })) ∧
      (s.due = some (.returned .timeout) → step s = .next (raise .timeout .nothing { s with due := none, inbox := es }))) ∧
    (s.curop = .xact → s.rxq = [] →
      (∀ (f : Frame) (k : Kind), s.due = some (.returned (.frame f)) → terminal (classify f) s.expect = true →
        outcomeOf (classify f) = some k →
        step s = .next (raise k (if k = .data then .frame f else .nothing) { s with due := none, inbox := es })) ∧
      (∀ f : Frame, s.lags = true → s.due = some (.returned (.frame f)) → terminal (classify f) s.expect = false →
        step s = .next { s with
          status := { s.status with uxseen := true }, result := { s.result with cls := some (classify f), valid := true }
          resTo := f.dst, resFrom := f.src, resLen := f.body.length, resBody := s.resBody.writeList 0 f.body
          due := some .check, inbox := es }) ∧
      (∀ r : ReadEnd, s.lags = true → r = .malformed ∨ r = .timeout → s.due = some (.returned r) →
        step s = .next { s with due := some .check, inbox := es }))) ∧
  (∀ (s : State) (e : Stimulus), s.prompt → (∃ bytes, e = .rx bytes) ∨ e = .quiet ∨ e = .txReady →
    ∃ n : Nat, settle^[n] (deliver e { s with lags := true }) = { deliver e s with lags := true })

/-! ### The reference host program -/

/-- Packed BCD (R145, R153): tens in bits 7:4, units in bits 3:0, never one of the bytes wired into the block. -/
def Obligations.BcdDigits : Prop :=
  ∀ n : Nat, n ≤ 99 →
    (bcd n).toNat = 16 * (n / 10) + n % 10 ∧ isBcd (bcd n) = true ∧
    bcd n ≠ 0xFD ∧ bcd n ≠ 0xFE ∧ bcd n ≠ 0xFA ∧ bcd n ≠ 0xFB

/-- The requests of a session are the frames of the table (R146, R148, R149, R170, R172, R174): the bytes the block sends for each
are the encoding of FREQ_QUERY, SET_DATE, SET_TIME_HMS or SET_TIME_HM, and the masks are 1 and 6. -/
def Obligations.SessionRequestsAreTableFrames : Prop :=
  ∀ p : SessionInput,
    encodeFrame (probeRequest p).dst (probeRequest p).src (probeRequest p).body =
      (Instr.freqQuery p.radioAddr p.ctrlAddr).wireBytes ∧
    (probeRequest p).expect = 1 ∧
    (∀ r, dateRequest p = some r → r.expect = 6 ∧ encodeFrame r.dst r.src r.body =
      (Instr.setDate p.radioAddr p.ctrlAddr p.profile.modelSubcode p.profile.dateOpcode
        (bcd (p.time.year / 100)) (bcd (p.time.year % 100)) (bcd p.time.month) (bcd p.time.day)).wireBytes) ∧
    (∀ r, timeRequest p = some r → r.expect = 6 ∧
      (p.profile.hasSeconds = true → ∃ sec, p.time.second = some sec ∧ encodeFrame r.dst r.src r.body =
        (Instr.setTimeHMS p.radioAddr p.ctrlAddr p.profile.modelSubcode p.profile.timeOpcode
          (bcd p.time.hour) (bcd p.time.minute) (bcd sec)).wireBytes) ∧
      (p.profile.hasSeconds = false → encodeFrame r.dst r.src r.body =
        (Instr.setTimeHM p.radioAddr p.ctrlAddr p.profile.modelSubcode p.profile.timeOpcode
          (bcd p.time.hour) (bcd p.time.minute)).wireBytes))

/-- The session (R165, R168 to R177, R180): a configuration error, or a transport that does not open, ends it with status 1 before
anything is sent (that a field out of range is such an error is the model's choice, log 20); else its time is the one sourced from
the clock, and for every three outcomes it sends these requests and ends with this status, always a definite one. The set-time
frame is sent only after the date was acknowledged. A session that is given an input which construction refuses stops, by the model's
choice (log 20), where the request cannot be built, with status 1 and without sending it, and stays there. -/
def Obligations.SessionSendsAndEndsByOutcome : Prop :=
  ∀ (c : SessionConfig) (clock : Clock) (opens : Bool) (ks : List Kind) (k1 k2 k3 : Kind),
    (SessionInput.construct c clock = none ∨ opens = false → sessionStatus c clock opens ks = (some 1, [])) ∧
    (∀ p, SessionInput.construct c clock = some p →
      selectModel c.model c.models = some p.profile ∧ p.time = clock.source c.clock ∧
      ∃ rd rt, dateRequest p = some rd ∧ timeRequest p = some rt ∧
        sessionStatus c clock true [k1, k2, k3] =
          (if k1 ≠ .data then (some 2, [probeRequest p])
          else if k2 ≠ .ack then (some 3, [probeRequest p, rd])
          else if k3 ≠ .ack then (some 4, [probeRequest p, rd, rt])
          else (some 0, [probeRequest p, rd, rt]))) ∧
    (∀ (p : SessionInput) (k : Kind), dateRequest p = none →
      let r := sessionRun p .idle (.data :: k :: ks)
      sessionResult p r.1 = some 1 ∧ r.2 = [probeRequest p]) ∧
    (∀ (p : SessionInput) (k : Kind) (rd : Request), dateRequest p = some rd → timeRequest p = none →
      let r := sessionRun p .idle (.data :: .ack :: k :: ks)
      sessionResult p r.1 = some 1 ∧ r.2 = [probeRequest p, rd]) ∧
    (∀ (p : SessionInput) (x : SessionRun), sessionRefused p x.state = true → x.host.program = [] → sessionStep p x = x)

/-- A session phase (R73, R178), run statement by statement against the machine. Its writes leave the read timeout and the request
in the operand registers of an idle block and nothing else changed, and `XACT; WAIT; RD RESULT` comes next. `WAIT` reads `STATUS`
and goes on exactly when `DONE = 1`; else the machine makes a step. After a `RESULT` of DATA or UNEXPECTED the result frame
registers are read, in order; after any other outcome nothing more is. That the host acts between two steps of the machine, and that
a `WAIT` which finds `DONE = 0` lets the machine make one step, is the model's choice (log 20). The count of reads is the model's own
(log 4). -/
def Obligations.SessionPhaseLoadsTheRequest : Prop :=
  (∀ (s : State) (p : SessionInput) (r : Request) (more : List Stmt) (w : Word) (rds : List Word), s.status.busy = false →
    r.body.length ≤ s.lmax - 2 → r.body.length < 2 ^ 32 →
    let t : State := { s with
      rdtmo := p.readTimeout, txTo := r.dst, txFrom := r.src, txLen := r.body.length, txBody := s.txBody.writeList 0 r.body
      expect := r.expect, deadline := r.deadline }
    hostRun (r.body.length + 6) ⟨s, sessionPhase p r ++ more, w, rds⟩ = ⟨t, executeAndRead ++ .rdFrame :: more, w, rds⟩ ∧
      t.txBodyBytes = r.body) ∧
  (∀ (s : State) (more : List Stmt) (w : Word) (rds : List Word),
    let m : State := { s with hRdata := s.status.word, readCount := s.readCount + 1 }
    hostStep ⟨s, .wait :: more, w, rds⟩ =
      if s.status.done = true then ⟨m, more, w, rds⟩ else ⟨nextState m, .wait :: more, w, rds⟩) ∧
  (∀ (s : State) (more : List Stmt) (w : Word) (rds : List Word), s.result.kind = .data ∨ s.result.kind = .unexpected →
    s.result.valid = true → s.resLen ≤ s.lmax - 2 → s.resLen < 2 ^ 32 → Memory.filled s.resBody s.resLen = true →
    ∃ t, hostRun (s.resLen + 6) ⟨s, .rd ⟨0, 9⟩ :: .rdFrame :: more, w, rds⟩ =
        ⟨t, more, s.result.word, rds ++ ([s.result.word, s.resTo.setWidth 32, s.resFrom.setWidth 32, BitVec.ofNat 32 s.resLen] ++
          s.resBodyBytes.map (fun b => b.setWidth 32))⟩ ∧
      t = { s with hRdata := t.hRdata, readCount := s.readCount + s.resLen + 4 }) ∧
  (∀ (s : State) (more : List Stmt) (w : Word) (rds : List Word), s.result.kind ≠ .data → s.result.kind ≠ .unexpected →
    hostRun 2 ⟨s, .rd ⟨0, 9⟩ :: .rdFrame :: more, w, rds⟩ =
      ⟨{ s with hRdata := s.result.word, readCount := s.readCount + 1 }, more, s.result.word, rds ++ [s.result.word]⟩)
end

