-- ==== Sys2Proof/Laws/Memory.lean ====
section
/-! SUPPORT. The laws of the byte buffers: read after write, the canonical form is kept, slices. -/

namespace Sys2Proof.Machine

@[simp] theorem Memory.read?_nil (a : Nat) : Memory.read? [] a = none := rfl

theorem Memory.read?_cons (b : Nat) (x : Byte) (rest : Memory) (a : Nat) :
    Memory.read? ((b, x) :: rest) a = if a = b then some x else Memory.read? rest a := rfl

/-- Reading after a write: the written byte at its address, any other address as before. -/
theorem Memory.read?_write (m : Memory) (a b : Nat) (v : Byte) :
    (m.write a v).read? b = if b = a then some v else m.read? b := by
  induction m with
  | nil => simp [Memory.write, Memory.read?]
  | cons c rest ih =>
    obtain ⟨d, x⟩ := c
    by_cases h1 : a < d
    · simp [Memory.write, Memory.read?, h1]
    · by_cases h2 : a = d
      · subst h2
        simp only [Memory.write, lt_irrefl, if_false, if_true, Memory.read?]
        split <;> rfl
      · simp only [Memory.write, h1, if_false, h2, Memory.read?, ih]
        split <;> split <;> simp_all

/-- Reading after writing a list: its bytes at `a`, `a + 1`, …, any other address as before. -/
theorem Memory.read?_writeList (vs : List Byte) (m : Memory) (a b : Nat) :
    (m.writeList a vs).read? b = if a ≤ b ∧ b < a + vs.length then vs[b - a]? else m.read? b := by
  induction vs generalizing m a with
  | nil => simp [Memory.writeList]
  | cons v vs ih =>
    simp only [Memory.writeList, ih, Memory.read?_write, List.length_cons]
    by_cases h : b = a
    · subst h; simp
    · by_cases h2 : a + 1 ≤ b ∧ b < a + 1 + vs.length
      · have h3 : a ≤ b ∧ b < a + (vs.length + 1) := by omega
        obtain ⟨n, rfl⟩ : ∃ n, b = a + 1 + n := ⟨b - (a + 1), by omega⟩
        simp only [h2, h3, and_self, if_true]
        rw [show a + 1 + n - (a + 1) = n by omega, show a + 1 + n - a = n + 1 by omega]
        rfl
      · have h3 : ¬ (a ≤ b ∧ b < a + (vs.length + 1)) := by omega
        rw [if_neg h2, if_neg h3, if_neg h]

/-- The addresses of a canonical buffer whose first address is above `a` are all above `a`. -/
theorem Memory.wf_cons (a : Nat) (v : Byte) (m : Memory) :
    Memory.wf ((a, v) :: m) = true ↔ (∀ b y rest, m = (b, y) :: rest → a < b) ∧ m.wf = true := by
  cases m with
  | nil => simp [Memory.wf]
  | cons c rest =>
    obtain ⟨b, y⟩ := c
    simp only [Memory.wf, Bool.and_eq_true, decide_eq_true_eq]
    constructor
    · rintro ⟨h, h'⟩
      exact ⟨fun b' y' r' e => by cases e; exact h, h'⟩
    · rintro ⟨h, h'⟩
      exact ⟨h b y rest rfl, h'⟩

/-- The first address of a written buffer is the written one or the old first one. -/
theorem Memory.write_head (m : Memory) (a : Nat) (v : Byte) (b : Nat) (y : Byte) (rest : Memory)
    (h : m.write a v = (b, y) :: rest) : b = a ∨ ∃ z r, m = (b, z) :: r := by
  cases m with
  | nil => simp only [Memory.write, List.cons.injEq, Prod.mk.injEq] at h; exact .inl h.1.1.symm
  | cons c r =>
    obtain ⟨d, x⟩ := c
    simp only [Memory.write] at h
    split at h
    · simp only [List.cons.injEq, Prod.mk.injEq] at h; exact .inl h.1.1.symm
    · split at h
      · simp only [List.cons.injEq, Prod.mk.injEq] at h; exact .inl h.1.1.symm
      · simp only [List.cons.injEq, Prod.mk.injEq] at h
        exact .inr ⟨x, r, by rw [h.1.1]⟩

/-- A write keeps the canonical form. -/
theorem Memory.wf_write (m : Memory) (a : Nat) (v : Byte) (h : m.wf = true) : (m.write a v).wf = true := by
  induction m with
  | nil => rfl
  | cons c rest ih =>
    obtain ⟨d, x⟩ := c
    have hw := (Memory.wf_cons d x rest).1 h
    by_cases h1 : a < d
    · simp only [Memory.write, h1, if_true]
      exact (Memory.wf_cons a v _).2 ⟨fun b y r e => by cases e; exact h1, h⟩
    · by_cases h2 : a = d
      · subst h2
        simp only [Memory.write, lt_irrefl, if_false, if_true]
        exact (Memory.wf_cons a v rest).2 hw
      · simp only [Memory.write, h1, if_false, h2]
        refine (Memory.wf_cons d x _).2 ⟨fun b y r e => ?_, ih hw.2⟩
        rcases Memory.write_head rest a v b y r e with rfl | ⟨z, r', e'⟩
        · omega
        · exact hw.1 _ _ _ e'

/-- Writing a list keeps the canonical form. -/
theorem Memory.wf_writeList (vs : List Byte) (m : Memory) (a : Nat) (h : m.wf = true) : (m.writeList a vs).wf = true := by
  induction vs generalizing m a with
  | nil => exact h
  | cons v vs ih => exact ih _ _ (m.wf_write a v h)

@[simp] theorem Memory.length_slice (m : Memory) (free : Nat → Byte) (a n : Nat) : (m.slice free a n).length = n := by
  induction n generalizing a with
  | zero => rfl
  | succ n ih => simp [Memory.slice, ih]

/-- An element of a slice is the byte read at its address. -/
theorem Memory.getElem?_slice (m : Memory) (free : Nat → Byte) (a n i : Nat) :
    (m.slice free a n)[i]? = if i < n then some ((m.read? (a + i)).getD (free (a + i))) else none := by
  induction n generalizing a i with
  | zero => simp [Memory.slice]
  | succ n ih =>
    cases i with
    | zero => simp [Memory.slice]
    | succ i =>
      simp only [Memory.slice, List.getElem?_cons_succ, ih, Nat.add_lt_add_iff_right]
      rw [show a + 1 + i = a + (i + 1) by omega]

/-- A slice depends on the bytes it covers only. -/
theorem Memory.slice_congr (m m' : Memory) (free : Nat → Byte) (a n : Nat)
    (h : ∀ i, a ≤ i → i < a + n → m.read? i = m'.read? i) : m.slice free a n = m'.slice free a n := by
  induction n generalizing a with
  | zero => rfl
  | succ n ih =>
    simp only [Memory.slice]
    rw [h a (by omega) (by omega), ih (a + 1) (fun i h1 h2 => h i (by omega) (by omega))]

/-- One more element of a slice. -/
theorem Memory.slice_succ (m : Memory) (free : Nat → Byte) (a n : Nat) :
    m.slice free a (n + 1) = m.slice free a n ++ [(m.read? (a + n)).getD (free (a + n))] := by
  induction n generalizing a with
  | zero => rfl
  | succ n ih =>
    rw [Memory.slice, ih, Memory.slice, List.cons_append, show a + 1 + n = a + (n + 1) by omega]

/-- Appending at the end of a slice: the accumulation of the reader (R99). -/
theorem Memory.slice_write_end (m : Memory) (free : Nat → Byte) (n : Nat) (v : Byte) :
    (m.write n v).slice free 0 (n + 1) = m.slice free 0 n ++ [v] := by
  rw [Memory.slice_succ, Memory.slice_congr (m.write n v) m]
  · simp [Memory.read?_write]
  · intro i _ h2
    rw [Memory.read?_write, if_neg (by omega)]

/-- A list written from 0 reads back as itself. -/
theorem Memory.slice_writeList (m : Memory) (free : Nat → Byte) (vs : List Byte) :
    (m.writeList 0 vs).slice free 0 vs.length = vs := by
  apply List.ext_getElem?
  intro i
  rw [Memory.getElem?_slice]
  by_cases h : i < vs.length
  · simp [h, Memory.read?_writeList]
  · simp [h]

end Sys2Proof.Machine
end

