-- ==== Sys2Proof/Laws/State.lean ====
section
/-! SUPPORT. One lemma per field for each shared update of the state, so that no proof unfolds a record update. -/

namespace Sys2Proof.Machine

variable (s : State) (f : Frame) (k : Kind) (op : CurOp) (b : Byte) (n : RegNum)

/-! ### cmdError -/

@[simp] theorem cmdError_lmax : (cmdError s).lmax = s.lmax := rfl
@[simp] theorem cmdError_curop : (cmdError s).curop = s.curop := rfl
@[simp] theorem cmdError_opst : (cmdError s).opst = s.opst := rfl
@[simp] theorem cmdError_rs : (cmdError s).rs = s.rs := rfl
@[simp] theorem cmdError_txidx : (cmdError s).txidx = s.txidx := rfl
@[simp] theorem cmdError_ie : (cmdError s).ie = s.ie := rfl
@[simp] theorem cmdError_status : (cmdError s).status = { s.status with cmderr := true } := rfl
@[simp] theorem cmdError_expect : (cmdError s).expect = s.expect := rfl
@[simp] theorem cmdError_rdtmo : (cmdError s).rdtmo = s.rdtmo := rfl
@[simp] theorem cmdError_deadline : (cmdError s).deadline = s.deadline := rfl
@[simp] theorem cmdError_txTo : (cmdError s).txTo = s.txTo := rfl
@[simp] theorem cmdError_txFrom : (cmdError s).txFrom = s.txFrom := rfl
@[simp] theorem cmdError_txLen : (cmdError s).txLen = s.txLen := rfl
@[simp] theorem cmdError_txBody : (cmdError s).txBody = s.txBody := rfl
@[simp] theorem cmdError_result : (cmdError s).result = s.result := rfl
@[simp] theorem cmdError_resTo : (cmdError s).resTo = s.resTo := rfl
@[simp] theorem cmdError_resFrom : (cmdError s).resFrom = s.resFrom := rfl
@[simp] theorem cmdError_resLen : (cmdError s).resLen = s.resLen := rfl
@[simp] theorem cmdError_resBody : (cmdError s).resBody = s.resBody := rfl
@[simp] theorem cmdError_malcnt : (cmdError s).malcnt = s.malcnt := rfl
@[simp] theorem cmdError_buf : (cmdError s).buf = s.buf := rfl
@[simp] theorem cmdError_blen : (cmdError s).blen = s.blen := rfl
@[simp] theorem cmdError_dlcnt : (cmdError s).dlcnt = s.dlcnt := rfl
@[simp] theorem cmdError_rtcnt : (cmdError s).rtcnt = s.rtcnt := rfl
@[simp] theorem cmdError_hRdata : (cmdError s).hRdata = s.hRdata := rfl
@[simp] theorem cmdError_lags : (cmdError s).lags = s.lags := rfl
@[simp] theorem cmdError_due : (cmdError s).due = s.due := rfl
@[simp] theorem cmdError_inbox : (cmdError s).inbox = s.inbox := rfl
@[simp] theorem cmdError_rxq : (cmdError s).rxq = s.rxq := rfl
@[simp] theorem cmdError_tx : (cmdError s).tx = s.tx := rfl
@[simp] theorem cmdError_ticks : (cmdError s).ticks = s.ticks := rfl
@[simp] theorem cmdError_cmdCount : (cmdError s).cmdCount = s.cmdCount := rfl
@[simp] theorem cmdError_readCount : (cmdError s).readCount = s.readCount := rfl

/-! ### acceptCommand -/

@[simp] theorem acceptCommand_lmax : (acceptCommand op s).lmax = s.lmax := rfl
@[simp] theorem acceptCommand_curop : (acceptCommand op s).curop = op := rfl
@[simp] theorem acceptCommand_opst : (acceptCommand op s).opst = s.opst := rfl
@[simp] theorem acceptCommand_rs : (acceptCommand op s).rs = s.rs := rfl
@[simp] theorem acceptCommand_txidx : (acceptCommand op s).txidx = s.txidx := rfl
@[simp] theorem acceptCommand_ie : (acceptCommand op s).ie = s.ie := rfl
@[simp] theorem acceptCommand_status : (acceptCommand op s).status = { s.status with busy := true, done := false, uxseen := false } := rfl
@[simp] theorem acceptCommand_expect : (acceptCommand op s).expect = s.expect := rfl
@[simp] theorem acceptCommand_rdtmo : (acceptCommand op s).rdtmo = s.rdtmo := rfl
@[simp] theorem acceptCommand_deadline : (acceptCommand op s).deadline = s.deadline := rfl
@[simp] theorem acceptCommand_txTo : (acceptCommand op s).txTo = s.txTo := rfl
@[simp] theorem acceptCommand_txFrom : (acceptCommand op s).txFrom = s.txFrom := rfl
@[simp] theorem acceptCommand_txLen : (acceptCommand op s).txLen = s.txLen := rfl
@[simp] theorem acceptCommand_txBody : (acceptCommand op s).txBody = s.txBody := rfl
@[simp] theorem acceptCommand_result : (acceptCommand op s).result = ResultReg.cleared := rfl
@[simp] theorem acceptCommand_resTo : (acceptCommand op s).resTo = 0 := rfl
@[simp] theorem acceptCommand_resFrom : (acceptCommand op s).resFrom = 0 := rfl
@[simp] theorem acceptCommand_resLen : (acceptCommand op s).resLen = 0 := rfl
@[simp] theorem acceptCommand_resBody : (acceptCommand op s).resBody = s.resBody := rfl
@[simp] theorem acceptCommand_malcnt : (acceptCommand op s).malcnt = 0 := rfl
@[simp] theorem acceptCommand_buf : (acceptCommand op s).buf = s.buf := rfl
@[simp] theorem acceptCommand_blen : (acceptCommand op s).blen = s.blen := rfl
@[simp] theorem acceptCommand_dlcnt : (acceptCommand op s).dlcnt = s.dlcnt := rfl
@[simp] theorem acceptCommand_rtcnt : (acceptCommand op s).rtcnt = s.rtcnt := rfl
@[simp] theorem acceptCommand_hRdata : (acceptCommand op s).hRdata = s.hRdata := rfl
@[simp] theorem acceptCommand_lags : (acceptCommand op s).lags = s.lags := rfl
@[simp] theorem acceptCommand_due : (acceptCommand op s).due = s.due := rfl
@[simp] theorem acceptCommand_inbox : (acceptCommand op s).inbox = s.inbox := rfl
@[simp] theorem acceptCommand_rxq : (acceptCommand op s).rxq = s.rxq := rfl
@[simp] theorem acceptCommand_tx : (acceptCommand op s).tx = s.tx := rfl
@[simp] theorem acceptCommand_ticks : (acceptCommand op s).ticks = s.ticks := rfl
@[simp] theorem acceptCommand_cmdCount : (acceptCommand op s).cmdCount = s.cmdCount + 1 := rfl
@[simp] theorem acceptCommand_readCount : (acceptCommand op s).readCount = s.readCount := rfl

/-! ### latchFrame -/

@[simp] theorem latchFrame_lmax : (latchFrame f s).lmax = s.lmax := rfl
@[simp] theorem latchFrame_curop : (latchFrame f s).curop = s.curop := rfl
@[simp] theorem latchFrame_opst : (latchFrame f s).opst = s.opst := rfl
@[simp] theorem latchFrame_rs : (latchFrame f s).rs = s.rs := rfl
@[simp] theorem latchFrame_txidx : (latchFrame f s).txidx = s.txidx := rfl
@[simp] theorem latchFrame_ie : (latchFrame f s).ie = s.ie := rfl
@[simp] theorem latchFrame_status : (latchFrame f s).status = s.status := rfl
@[simp] theorem latchFrame_expect : (latchFrame f s).expect = s.expect := rfl
@[simp] theorem latchFrame_rdtmo : (latchFrame f s).rdtmo = s.rdtmo := rfl
@[simp] theorem latchFrame_deadline : (latchFrame f s).deadline = s.deadline := rfl
@[simp] theorem latchFrame_txTo : (latchFrame f s).txTo = s.txTo := rfl
@[simp] theorem latchFrame_txFrom : (latchFrame f s).txFrom = s.txFrom := rfl
@[simp] theorem latchFrame_txLen : (latchFrame f s).txLen = s.txLen := rfl
@[simp] theorem latchFrame_txBody : (latchFrame f s).txBody = s.txBody := rfl
@[simp] theorem latchFrame_result : (latchFrame f s).result = { s.result with cls := some (classify f), valid := true } := rfl
@[simp] theorem latchFrame_resTo : (latchFrame f s).resTo = f.dst := rfl
@[simp] theorem latchFrame_resFrom : (latchFrame f s).resFrom = f.src := rfl
@[simp] theorem latchFrame_resLen : (latchFrame f s).resLen = f.body.length := rfl
@[simp] theorem latchFrame_resBody : (latchFrame f s).resBody = s.resBody.writeList 0 f.body := rfl
@[simp] theorem latchFrame_malcnt : (latchFrame f s).malcnt = s.malcnt := rfl
@[simp] theorem latchFrame_buf : (latchFrame f s).buf = s.buf := rfl
@[simp] theorem latchFrame_blen : (latchFrame f s).blen = s.blen := rfl
@[simp] theorem latchFrame_dlcnt : (latchFrame f s).dlcnt = s.dlcnt := rfl
@[simp] theorem latchFrame_rtcnt : (latchFrame f s).rtcnt = s.rtcnt := rfl
@[simp] theorem latchFrame_hRdata : (latchFrame f s).hRdata = s.hRdata := rfl
@[simp] theorem latchFrame_lags : (latchFrame f s).lags = s.lags := rfl
@[simp] theorem latchFrame_due : (latchFrame f s).due = s.due := rfl
@[simp] theorem latchFrame_inbox : (latchFrame f s).inbox = s.inbox := rfl
@[simp] theorem latchFrame_rxq : (latchFrame f s).rxq = s.rxq := rfl
@[simp] theorem latchFrame_tx : (latchFrame f s).tx = s.tx := rfl
@[simp] theorem latchFrame_ticks : (latchFrame f s).ticks = s.ticks := rfl
@[simp] theorem latchFrame_cmdCount : (latchFrame f s).cmdCount = s.cmdCount := rfl
@[simp] theorem latchFrame_readCount : (latchFrame f s).readCount = s.readCount := rfl

/-! ### clearFrame -/

@[simp] theorem clearFrame_lmax : (clearFrame s).lmax = s.lmax := rfl
@[simp] theorem clearFrame_curop : (clearFrame s).curop = s.curop := rfl
@[simp] theorem clearFrame_opst : (clearFrame s).opst = s.opst := rfl
@[simp] theorem clearFrame_rs : (clearFrame s).rs = s.rs := rfl
@[simp] theorem clearFrame_txidx : (clearFrame s).txidx = s.txidx := rfl
@[simp] theorem clearFrame_ie : (clearFrame s).ie = s.ie := rfl
@[simp] theorem clearFrame_status : (clearFrame s).status = s.status := rfl
@[simp] theorem clearFrame_expect : (clearFrame s).expect = s.expect := rfl
@[simp] theorem clearFrame_rdtmo : (clearFrame s).rdtmo = s.rdtmo := rfl
@[simp] theorem clearFrame_deadline : (clearFrame s).deadline = s.deadline := rfl
@[simp] theorem clearFrame_txTo : (clearFrame s).txTo = s.txTo := rfl
@[simp] theorem clearFrame_txFrom : (clearFrame s).txFrom = s.txFrom := rfl
@[simp] theorem clearFrame_txLen : (clearFrame s).txLen = s.txLen := rfl
@[simp] theorem clearFrame_txBody : (clearFrame s).txBody = s.txBody := rfl
@[simp] theorem clearFrame_result : (clearFrame s).result = { s.result with cls := none, valid := false } := rfl
@[simp] theorem clearFrame_resTo : (clearFrame s).resTo = 0 := rfl
@[simp] theorem clearFrame_resFrom : (clearFrame s).resFrom = 0 := rfl
@[simp] theorem clearFrame_resLen : (clearFrame s).resLen = 0 := rfl
@[simp] theorem clearFrame_resBody : (clearFrame s).resBody = s.resBody := rfl
@[simp] theorem clearFrame_malcnt : (clearFrame s).malcnt = s.malcnt := rfl
@[simp] theorem clearFrame_buf : (clearFrame s).buf = s.buf := rfl
@[simp] theorem clearFrame_blen : (clearFrame s).blen = s.blen := rfl
@[simp] theorem clearFrame_dlcnt : (clearFrame s).dlcnt = s.dlcnt := rfl
@[simp] theorem clearFrame_rtcnt : (clearFrame s).rtcnt = s.rtcnt := rfl
@[simp] theorem clearFrame_hRdata : (clearFrame s).hRdata = s.hRdata := rfl
@[simp] theorem clearFrame_lags : (clearFrame s).lags = s.lags := rfl
@[simp] theorem clearFrame_due : (clearFrame s).due = s.due := rfl
@[simp] theorem clearFrame_inbox : (clearFrame s).inbox = s.inbox := rfl
@[simp] theorem clearFrame_rxq : (clearFrame s).rxq = s.rxq := rfl
@[simp] theorem clearFrame_tx : (clearFrame s).tx = s.tx := rfl
@[simp] theorem clearFrame_ticks : (clearFrame s).ticks = s.ticks := rfl
@[simp] theorem clearFrame_cmdCount : (clearFrame s).cmdCount = s.cmdCount := rfl
@[simp] theorem clearFrame_readCount : (clearFrame s).readCount = s.readCount := rfl

/-! ### recordUnexpected -/

@[simp] theorem recordUnexpected_lmax : (recordUnexpected f s).lmax = s.lmax := rfl
@[simp] theorem recordUnexpected_curop : (recordUnexpected f s).curop = s.curop := rfl
@[simp] theorem recordUnexpected_opst : (recordUnexpected f s).opst = s.opst := rfl
@[simp] theorem recordUnexpected_rs : (recordUnexpected f s).rs = s.rs := rfl
@[simp] theorem recordUnexpected_txidx : (recordUnexpected f s).txidx = s.txidx := rfl
@[simp] theorem recordUnexpected_ie : (recordUnexpected f s).ie = s.ie := rfl
@[simp] theorem recordUnexpected_status : (recordUnexpected f s).status = { s.status with uxseen := true } := rfl
@[simp] theorem recordUnexpected_expect : (recordUnexpected f s).expect = s.expect := rfl
@[simp] theorem recordUnexpected_rdtmo : (recordUnexpected f s).rdtmo = s.rdtmo := rfl
@[simp] theorem recordUnexpected_deadline : (recordUnexpected f s).deadline = s.deadline := rfl
@[simp] theorem recordUnexpected_txTo : (recordUnexpected f s).txTo = s.txTo := rfl
@[simp] theorem recordUnexpected_txFrom : (recordUnexpected f s).txFrom = s.txFrom := rfl
@[simp] theorem recordUnexpected_txLen : (recordUnexpected f s).txLen = s.txLen := rfl
@[simp] theorem recordUnexpected_txBody : (recordUnexpected f s).txBody = s.txBody := rfl
@[simp] theorem recordUnexpected_result : (recordUnexpected f s).result = { s.result with cls := some (classify f), valid := true } := rfl
@[simp] theorem recordUnexpected_resTo : (recordUnexpected f s).resTo = f.dst := rfl
@[simp] theorem recordUnexpected_resFrom : (recordUnexpected f s).resFrom = f.src := rfl
@[simp] theorem recordUnexpected_resLen : (recordUnexpected f s).resLen = f.body.length := rfl
@[simp] theorem recordUnexpected_resBody : (recordUnexpected f s).resBody = s.resBody.writeList 0 f.body := rfl
@[simp] theorem recordUnexpected_malcnt : (recordUnexpected f s).malcnt = s.malcnt := rfl
@[simp] theorem recordUnexpected_buf : (recordUnexpected f s).buf = s.buf := rfl
@[simp] theorem recordUnexpected_blen : (recordUnexpected f s).blen = s.blen := rfl
@[simp] theorem recordUnexpected_dlcnt : (recordUnexpected f s).dlcnt = s.dlcnt := rfl
@[simp] theorem recordUnexpected_rtcnt : (recordUnexpected f s).rtcnt = s.rtcnt := rfl
@[simp] theorem recordUnexpected_hRdata : (recordUnexpected f s).hRdata = s.hRdata := rfl
@[simp] theorem recordUnexpected_lags : (recordUnexpected f s).lags = s.lags := rfl
@[simp] theorem recordUnexpected_due : (recordUnexpected f s).due = s.due := rfl
@[simp] theorem recordUnexpected_inbox : (recordUnexpected f s).inbox = s.inbox := rfl
@[simp] theorem recordUnexpected_rxq : (recordUnexpected f s).rxq = s.rxq := rfl
@[simp] theorem recordUnexpected_tx : (recordUnexpected f s).tx = s.tx := rfl
@[simp] theorem recordUnexpected_ticks : (recordUnexpected f s).ticks = s.ticks := rfl
@[simp] theorem recordUnexpected_cmdCount : (recordUnexpected f s).cmdCount = s.cmdCount := rfl
@[simp] theorem recordUnexpected_readCount : (recordUnexpected f s).readCount = s.readCount := rfl

/-! ### startRead -/

@[simp] theorem startRead_lmax : (startRead s).lmax = s.lmax := rfl
@[simp] theorem startRead_curop : (startRead s).curop = s.curop := rfl
@[simp] theorem startRead_opst : (startRead s).opst = s.opst := rfl
@[simp] theorem startRead_rs : (startRead s).rs = s.rs := rfl
@[simp] theorem startRead_txidx : (startRead s).txidx = s.txidx := rfl
@[simp] theorem startRead_ie : (startRead s).ie = s.ie := rfl
@[simp] theorem startRead_status : (startRead s).status = s.status := rfl
@[simp] theorem startRead_expect : (startRead s).expect = s.expect := rfl
@[simp] theorem startRead_rdtmo : (startRead s).rdtmo = s.rdtmo := rfl
@[simp] theorem startRead_deadline : (startRead s).deadline = s.deadline := rfl
@[simp] theorem startRead_txTo : (startRead s).txTo = s.txTo := rfl
@[simp] theorem startRead_txFrom : (startRead s).txFrom = s.txFrom := rfl
@[simp] theorem startRead_txLen : (startRead s).txLen = s.txLen := rfl
@[simp] theorem startRead_txBody : (startRead s).txBody = s.txBody := rfl
@[simp] theorem startRead_result : (startRead s).result = s.result := rfl
@[simp] theorem startRead_resTo : (startRead s).resTo = s.resTo := rfl
@[simp] theorem startRead_resFrom : (startRead s).resFrom = s.resFrom := rfl
@[simp] theorem startRead_resLen : (startRead s).resLen = s.resLen := rfl
@[simp] theorem startRead_resBody : (startRead s).resBody = s.resBody := rfl
@[simp] theorem startRead_malcnt : (startRead s).malcnt = s.malcnt := rfl
@[simp] theorem startRead_buf : (startRead s).buf = s.buf := rfl
@[simp] theorem startRead_blen : (startRead s).blen = s.blen := rfl
@[simp] theorem startRead_dlcnt : (startRead s).dlcnt = s.dlcnt := rfl
@[simp] theorem startRead_rtcnt : (startRead s).rtcnt = s.rdtmo := rfl
@[simp] theorem startRead_hRdata : (startRead s).hRdata = s.hRdata := rfl
@[simp] theorem startRead_lags : (startRead s).lags = s.lags := rfl
@[simp] theorem startRead_due : (startRead s).due = s.due := rfl
@[simp] theorem startRead_inbox : (startRead s).inbox = s.inbox := rfl
@[simp] theorem startRead_rxq : (startRead s).rxq = s.rxq := rfl
@[simp] theorem startRead_tx : (startRead s).tx = s.tx := rfl
@[simp] theorem startRead_ticks : (startRead s).ticks = s.ticks := rfl
@[simp] theorem startRead_cmdCount : (startRead s).cmdCount = s.cmdCount := rfl
@[simp] theorem startRead_readCount : (startRead s).readCount = s.readCount := rfl

/-! ### startInvocation -/

@[simp] theorem startInvocation_lmax : (startInvocation s).lmax = s.lmax := rfl
@[simp] theorem startInvocation_curop : (startInvocation s).curop = s.curop := rfl
@[simp] theorem startInvocation_opst : (startInvocation s).opst = .rd := rfl
@[simp] theorem startInvocation_rs : (startInvocation s).rs = .hunt1 := rfl
@[simp] theorem startInvocation_txidx : (startInvocation s).txidx = s.txidx := rfl
@[simp] theorem startInvocation_ie : (startInvocation s).ie = s.ie := rfl
@[simp] theorem startInvocation_status : (startInvocation s).status = s.status := rfl
@[simp] theorem startInvocation_expect : (startInvocation s).expect = s.expect := rfl
@[simp] theorem startInvocation_rdtmo : (startInvocation s).rdtmo = s.rdtmo := rfl
@[simp] theorem startInvocation_deadline : (startInvocation s).deadline = s.deadline := rfl
@[simp] theorem startInvocation_txTo : (startInvocation s).txTo = s.txTo := rfl
@[simp] theorem startInvocation_txFrom : (startInvocation s).txFrom = s.txFrom := rfl
@[simp] theorem startInvocation_txLen : (startInvocation s).txLen = s.txLen := rfl
@[simp] theorem startInvocation_txBody : (startInvocation s).txBody = s.txBody := rfl
@[simp] theorem startInvocation_result : (startInvocation s).result = s.result := rfl
@[simp] theorem startInvocation_resTo : (startInvocation s).resTo = s.resTo := rfl
@[simp] theorem startInvocation_resFrom : (startInvocation s).resFrom = s.resFrom := rfl
@[simp] theorem startInvocation_resLen : (startInvocation s).resLen = s.resLen := rfl
@[simp] theorem startInvocation_resBody : (startInvocation s).resBody = s.resBody := rfl
@[simp] theorem startInvocation_malcnt : (startInvocation s).malcnt = s.malcnt := rfl
@[simp] theorem startInvocation_buf : (startInvocation s).buf = s.buf := rfl
@[simp] theorem startInvocation_blen : (startInvocation s).blen = 0 := rfl
@[simp] theorem startInvocation_dlcnt : (startInvocation s).dlcnt = s.dlcnt := rfl
@[simp] theorem startInvocation_rtcnt : (startInvocation s).rtcnt = s.rdtmo := rfl
@[simp] theorem startInvocation_hRdata : (startInvocation s).hRdata = s.hRdata := rfl
@[simp] theorem startInvocation_lags : (startInvocation s).lags = s.lags := rfl
@[simp] theorem startInvocation_due : (startInvocation s).due = s.due := rfl
@[simp] theorem startInvocation_inbox : (startInvocation s).inbox = s.inbox := rfl
@[simp] theorem startInvocation_rxq : (startInvocation s).rxq = s.rxq := rfl
@[simp] theorem startInvocation_tx : (startInvocation s).tx = s.tx := rfl
@[simp] theorem startInvocation_ticks : (startInvocation s).ticks = s.ticks := rfl
@[simp] theorem startInvocation_cmdCount : (startInvocation s).cmdCount = s.cmdCount := rfl
@[simp] theorem startInvocation_readCount : (startInvocation s).readCount = s.readCount := rfl

/-! ### countMalformed -/

@[simp] theorem countMalformed_lmax : (countMalformed s).lmax = s.lmax := rfl
@[simp] theorem countMalformed_curop : (countMalformed s).curop = s.curop := rfl
@[simp] theorem countMalformed_opst : (countMalformed s).opst = s.opst := rfl
@[simp] theorem countMalformed_rs : (countMalformed s).rs = s.rs := rfl
@[simp] theorem countMalformed_txidx : (countMalformed s).txidx = s.txidx := rfl
@[simp] theorem countMalformed_ie : (countMalformed s).ie = s.ie := rfl
@[simp] theorem countMalformed_status : (countMalformed s).status = s.status := rfl
@[simp] theorem countMalformed_expect : (countMalformed s).expect = s.expect := rfl
@[simp] theorem countMalformed_rdtmo : (countMalformed s).rdtmo = s.rdtmo := rfl
@[simp] theorem countMalformed_deadline : (countMalformed s).deadline = s.deadline := rfl
@[simp] theorem countMalformed_txTo : (countMalformed s).txTo = s.txTo := rfl
@[simp] theorem countMalformed_txFrom : (countMalformed s).txFrom = s.txFrom := rfl
@[simp] theorem countMalformed_txLen : (countMalformed s).txLen = s.txLen := rfl
@[simp] theorem countMalformed_txBody : (countMalformed s).txBody = s.txBody := rfl
@[simp] theorem countMalformed_result : (countMalformed s).result = s.result := rfl
@[simp] theorem countMalformed_resTo : (countMalformed s).resTo = s.resTo := rfl
@[simp] theorem countMalformed_resFrom : (countMalformed s).resFrom = s.resFrom := rfl
@[simp] theorem countMalformed_resLen : (countMalformed s).resLen = s.resLen := rfl
@[simp] theorem countMalformed_resBody : (countMalformed s).resBody = s.resBody := rfl
@[simp] theorem countMalformed_malcnt : (countMalformed s).malcnt = satInc s.malcnt := rfl
@[simp] theorem countMalformed_buf : (countMalformed s).buf = s.buf := rfl
@[simp] theorem countMalformed_blen : (countMalformed s).blen = s.blen := rfl
@[simp] theorem countMalformed_dlcnt : (countMalformed s).dlcnt = s.dlcnt := rfl
@[simp] theorem countMalformed_rtcnt : (countMalformed s).rtcnt = s.rtcnt := rfl
@[simp] theorem countMalformed_hRdata : (countMalformed s).hRdata = s.hRdata := rfl
@[simp] theorem countMalformed_lags : (countMalformed s).lags = s.lags := rfl
@[simp] theorem countMalformed_due : (countMalformed s).due = s.due := rfl
@[simp] theorem countMalformed_inbox : (countMalformed s).inbox = s.inbox := rfl
@[simp] theorem countMalformed_rxq : (countMalformed s).rxq = s.rxq := rfl
@[simp] theorem countMalformed_tx : (countMalformed s).tx = s.tx := rfl
@[simp] theorem countMalformed_ticks : (countMalformed s).ticks = s.ticks := rfl
@[simp] theorem countMalformed_cmdCount : (countMalformed s).cmdCount = s.cmdCount := rfl
@[simp] theorem countMalformed_readCount : (countMalformed s).readCount = s.readCount := rfl

/-! ### accumulate -/

@[simp] theorem accumulate_lmax : (accumulate b s).lmax = s.lmax := rfl
@[simp] theorem accumulate_curop : (accumulate b s).curop = s.curop := rfl
@[simp] theorem accumulate_opst : (accumulate b s).opst = s.opst := rfl
@[simp] theorem accumulate_rs : (accumulate b s).rs = s.rs := rfl
@[simp] theorem accumulate_txidx : (accumulate b s).txidx = s.txidx := rfl
@[simp] theorem accumulate_ie : (accumulate b s).ie = s.ie := rfl
@[simp] theorem accumulate_status : (accumulate b s).status = s.status := rfl
@[simp] theorem accumulate_expect : (accumulate b s).expect = s.expect := rfl
@[simp] theorem accumulate_rdtmo : (accumulate b s).rdtmo = s.rdtmo := rfl
@[simp] theorem accumulate_deadline : (accumulate b s).deadline = s.deadline := rfl
@[simp] theorem accumulate_txTo : (accumulate b s).txTo = s.txTo := rfl
@[simp] theorem accumulate_txFrom : (accumulate b s).txFrom = s.txFrom := rfl
@[simp] theorem accumulate_txLen : (accumulate b s).txLen = s.txLen := rfl
@[simp] theorem accumulate_txBody : (accumulate b s).txBody = s.txBody := rfl
@[simp] theorem accumulate_result : (accumulate b s).result = s.result := rfl
@[simp] theorem accumulate_resTo : (accumulate b s).resTo = s.resTo := rfl
@[simp] theorem accumulate_resFrom : (accumulate b s).resFrom = s.resFrom := rfl
@[simp] theorem accumulate_resLen : (accumulate b s).resLen = s.resLen := rfl
@[simp] theorem accumulate_resBody : (accumulate b s).resBody = s.resBody := rfl
@[simp] theorem accumulate_malcnt : (accumulate b s).malcnt = s.malcnt := rfl
@[simp] theorem accumulate_buf : (accumulate b s).buf = s.buf.write s.blen b := rfl
@[simp] theorem accumulate_blen : (accumulate b s).blen = s.blen + 1 := rfl
@[simp] theorem accumulate_dlcnt : (accumulate b s).dlcnt = s.dlcnt := rfl
@[simp] theorem accumulate_rtcnt : (accumulate b s).rtcnt = s.rtcnt := rfl
@[simp] theorem accumulate_hRdata : (accumulate b s).hRdata = s.hRdata := rfl
@[simp] theorem accumulate_lags : (accumulate b s).lags = s.lags := rfl
@[simp] theorem accumulate_due : (accumulate b s).due = s.due := rfl
@[simp] theorem accumulate_inbox : (accumulate b s).inbox = s.inbox := rfl
@[simp] theorem accumulate_rxq : (accumulate b s).rxq = s.rxq := rfl
@[simp] theorem accumulate_tx : (accumulate b s).tx = s.tx := rfl
@[simp] theorem accumulate_ticks : (accumulate b s).ticks = s.ticks := rfl
@[simp] theorem accumulate_cmdCount : (accumulate b s).cmdCount = s.cmdCount := rfl
@[simp] theorem accumulate_readCount : (accumulate b s).readCount = s.readCount := rfl

/-! ### tickDeadline -/

@[simp] theorem tickDeadline_lmax : (tickDeadline s).lmax = s.lmax := rfl
@[simp] theorem tickDeadline_curop : (tickDeadline s).curop = s.curop := rfl
@[simp] theorem tickDeadline_opst : (tickDeadline s).opst = s.opst := rfl
@[simp] theorem tickDeadline_rs : (tickDeadline s).rs = s.rs := rfl
@[simp] theorem tickDeadline_txidx : (tickDeadline s).txidx = s.txidx := rfl
@[simp] theorem tickDeadline_ie : (tickDeadline s).ie = s.ie := rfl
@[simp] theorem tickDeadline_status : (tickDeadline s).status = s.status := rfl
@[simp] theorem tickDeadline_expect : (tickDeadline s).expect = s.expect := rfl
@[simp] theorem tickDeadline_rdtmo : (tickDeadline s).rdtmo = s.rdtmo := rfl
@[simp] theorem tickDeadline_deadline : (tickDeadline s).deadline = s.deadline := rfl
@[simp] theorem tickDeadline_txTo : (tickDeadline s).txTo = s.txTo := rfl
@[simp] theorem tickDeadline_txFrom : (tickDeadline s).txFrom = s.txFrom := rfl
@[simp] theorem tickDeadline_txLen : (tickDeadline s).txLen = s.txLen := rfl
@[simp] theorem tickDeadline_txBody : (tickDeadline s).txBody = s.txBody := rfl
@[simp] theorem tickDeadline_result : (tickDeadline s).result = s.result := rfl
@[simp] theorem tickDeadline_resTo : (tickDeadline s).resTo = s.resTo := rfl
@[simp] theorem tickDeadline_resFrom : (tickDeadline s).resFrom = s.resFrom := rfl
@[simp] theorem tickDeadline_resLen : (tickDeadline s).resLen = s.resLen := rfl
@[simp] theorem tickDeadline_resBody : (tickDeadline s).resBody = s.resBody := rfl
@[simp] theorem tickDeadline_malcnt : (tickDeadline s).malcnt = s.malcnt := rfl
@[simp] theorem tickDeadline_buf : (tickDeadline s).buf = s.buf := rfl
@[simp] theorem tickDeadline_blen : (tickDeadline s).blen = s.blen := rfl
@[simp] theorem tickDeadline_dlcnt : (tickDeadline s).dlcnt = if s.curop = .xact then satDec s.dlcnt else s.dlcnt := rfl
@[simp] theorem tickDeadline_rtcnt : (tickDeadline s).rtcnt = s.rtcnt := rfl
@[simp] theorem tickDeadline_hRdata : (tickDeadline s).hRdata = s.hRdata := rfl
@[simp] theorem tickDeadline_lags : (tickDeadline s).lags = s.lags := rfl
@[simp] theorem tickDeadline_due : (tickDeadline s).due = s.due := rfl
@[simp] theorem tickDeadline_inbox : (tickDeadline s).inbox = s.inbox := rfl
@[simp] theorem tickDeadline_rxq : (tickDeadline s).rxq = s.rxq := rfl
@[simp] theorem tickDeadline_tx : (tickDeadline s).tx = s.tx := rfl
@[simp] theorem tickDeadline_ticks : (tickDeadline s).ticks = s.ticks + 1 := rfl
@[simp] theorem tickDeadline_cmdCount : (tickDeadline s).cmdCount = s.cmdCount := rfl
@[simp] theorem tickDeadline_readCount : (tickDeadline s).readCount = s.readCount := rfl

/-! ### tickRead -/

@[simp] theorem tickRead_lmax : (tickRead s).lmax = s.lmax := rfl
@[simp] theorem tickRead_curop : (tickRead s).curop = s.curop := rfl
@[simp] theorem tickRead_opst : (tickRead s).opst = s.opst := rfl
@[simp] theorem tickRead_rs : (tickRead s).rs = s.rs := rfl
@[simp] theorem tickRead_txidx : (tickRead s).txidx = s.txidx := rfl
@[simp] theorem tickRead_ie : (tickRead s).ie = s.ie := rfl
@[simp] theorem tickRead_status : (tickRead s).status = s.status := rfl
@[simp] theorem tickRead_expect : (tickRead s).expect = s.expect := rfl
@[simp] theorem tickRead_rdtmo : (tickRead s).rdtmo = s.rdtmo := rfl
@[simp] theorem tickRead_deadline : (tickRead s).deadline = s.deadline := rfl
@[simp] theorem tickRead_txTo : (tickRead s).txTo = s.txTo := rfl
@[simp] theorem tickRead_txFrom : (tickRead s).txFrom = s.txFrom := rfl
@[simp] theorem tickRead_txLen : (tickRead s).txLen = s.txLen := rfl
@[simp] theorem tickRead_txBody : (tickRead s).txBody = s.txBody := rfl
@[simp] theorem tickRead_result : (tickRead s).result = s.result := rfl
@[simp] theorem tickRead_resTo : (tickRead s).resTo = s.resTo := rfl
@[simp] theorem tickRead_resFrom : (tickRead s).resFrom = s.resFrom := rfl
@[simp] theorem tickRead_resLen : (tickRead s).resLen = s.resLen := rfl
@[simp] theorem tickRead_resBody : (tickRead s).resBody = s.resBody := rfl
@[simp] theorem tickRead_malcnt : (tickRead s).malcnt = s.malcnt := rfl
@[simp] theorem tickRead_buf : (tickRead s).buf = s.buf := rfl
@[simp] theorem tickRead_blen : (tickRead s).blen = s.blen := rfl
@[simp] theorem tickRead_dlcnt : (tickRead s).dlcnt = s.dlcnt := rfl
@[simp] theorem tickRead_rtcnt : (tickRead s).rtcnt = if s.reading then satDec s.rtcnt else s.rtcnt := rfl
@[simp] theorem tickRead_hRdata : (tickRead s).hRdata = s.hRdata := rfl
@[simp] theorem tickRead_lags : (tickRead s).lags = s.lags := rfl
@[simp] theorem tickRead_due : (tickRead s).due = s.due := rfl
@[simp] theorem tickRead_inbox : (tickRead s).inbox = s.inbox := rfl
@[simp] theorem tickRead_rxq : (tickRead s).rxq = s.rxq := rfl
@[simp] theorem tickRead_tx : (tickRead s).tx = s.tx := rfl
@[simp] theorem tickRead_ticks : (tickRead s).ticks = s.ticks := rfl
@[simp] theorem tickRead_cmdCount : (tickRead s).cmdCount = s.cmdCount := rfl
@[simp] theorem tickRead_readCount : (tickRead s).readCount = s.readCount := rfl

/-! ### hostRead -/

@[simp] theorem hostRead_lmax : (hostRead n s).lmax = s.lmax := rfl
@[simp] theorem hostRead_curop : (hostRead n s).curop = s.curop := rfl
@[simp] theorem hostRead_opst : (hostRead n s).opst = s.opst := rfl
@[simp] theorem hostRead_rs : (hostRead n s).rs = s.rs := rfl
@[simp] theorem hostRead_txidx : (hostRead n s).txidx = s.txidx := rfl
@[simp] theorem hostRead_ie : (hostRead n s).ie = s.ie := rfl
@[simp] theorem hostRead_status : (hostRead n s).status = s.status := rfl
@[simp] theorem hostRead_expect : (hostRead n s).expect = s.expect := rfl
@[simp] theorem hostRead_rdtmo : (hostRead n s).rdtmo = s.rdtmo := rfl
@[simp] theorem hostRead_deadline : (hostRead n s).deadline = s.deadline := rfl
@[simp] theorem hostRead_txTo : (hostRead n s).txTo = s.txTo := rfl
@[simp] theorem hostRead_txFrom : (hostRead n s).txFrom = s.txFrom := rfl
@[simp] theorem hostRead_txLen : (hostRead n s).txLen = s.txLen := rfl
@[simp] theorem hostRead_txBody : (hostRead n s).txBody = s.txBody := rfl
@[simp] theorem hostRead_result : (hostRead n s).result = s.result := rfl
@[simp] theorem hostRead_resTo : (hostRead n s).resTo = s.resTo := rfl
@[simp] theorem hostRead_resFrom : (hostRead n s).resFrom = s.resFrom := rfl
@[simp] theorem hostRead_resLen : (hostRead n s).resLen = s.resLen := rfl
@[simp] theorem hostRead_resBody : (hostRead n s).resBody = s.resBody := rfl
@[simp] theorem hostRead_malcnt : (hostRead n s).malcnt = s.malcnt := rfl
@[simp] theorem hostRead_buf : (hostRead n s).buf = s.buf := rfl
@[simp] theorem hostRead_blen : (hostRead n s).blen = s.blen := rfl
@[simp] theorem hostRead_dlcnt : (hostRead n s).dlcnt = s.dlcnt := rfl
@[simp] theorem hostRead_rtcnt : (hostRead n s).rtcnt = s.rtcnt := rfl
@[simp] theorem hostRead_hRdata : (hostRead n s).hRdata = readValue (Reg.ofNum s.bmax n) s := rfl
@[simp] theorem hostRead_lags : (hostRead n s).lags = s.lags := rfl
@[simp] theorem hostRead_due : (hostRead n s).due = s.due := rfl
@[simp] theorem hostRead_inbox : (hostRead n s).inbox = s.inbox := rfl
@[simp] theorem hostRead_rxq : (hostRead n s).rxq = s.rxq := rfl
@[simp] theorem hostRead_tx : (hostRead n s).tx = s.tx := rfl
@[simp] theorem hostRead_ticks : (hostRead n s).ticks = s.ticks := rfl
@[simp] theorem hostRead_cmdCount : (hostRead n s).cmdCount = s.cmdCount := rfl
@[simp] theorem hostRead_readCount : (hostRead n s).readCount = s.readCount + 1 := rfl

/-! ### raise_nothing -/

@[simp] theorem raise_nothing_lmax : (raise k .nothing s).lmax = s.lmax := rfl
@[simp] theorem raise_nothing_curop : (raise k .nothing s).curop = .none := rfl
@[simp] theorem raise_nothing_opst : (raise k .nothing s).opst = .idle := rfl
@[simp] theorem raise_nothing_rs : (raise k .nothing s).rs = s.rs := rfl
@[simp] theorem raise_nothing_txidx : (raise k .nothing s).txidx = s.txidx := rfl
@[simp] theorem raise_nothing_ie : (raise k .nothing s).ie = s.ie := rfl
@[simp] theorem raise_nothing_status : (raise k .nothing s).status = { s.status with busy := false, done := true } := rfl
@[simp] theorem raise_nothing_expect : (raise k .nothing s).expect = s.expect := rfl
@[simp] theorem raise_nothing_rdtmo : (raise k .nothing s).rdtmo = s.rdtmo := rfl
@[simp] theorem raise_nothing_deadline : (raise k .nothing s).deadline = s.deadline := rfl
@[simp] theorem raise_nothing_txTo : (raise k .nothing s).txTo = s.txTo := rfl
@[simp] theorem raise_nothing_txFrom : (raise k .nothing s).txFrom = s.txFrom := rfl
@[simp] theorem raise_nothing_txLen : (raise k .nothing s).txLen = s.txLen := rfl
@[simp] theorem raise_nothing_txBody : (raise k .nothing s).txBody = s.txBody := rfl
@[simp] theorem raise_nothing_result : (raise k .nothing s).result = ⟨k, none, false⟩ := rfl
@[simp] theorem raise_nothing_resTo : (raise k .nothing s).resTo = 0 := rfl
@[simp] theorem raise_nothing_resFrom : (raise k .nothing s).resFrom = 0 := rfl
@[simp] theorem raise_nothing_resLen : (raise k .nothing s).resLen = 0 := rfl
@[simp] theorem raise_nothing_resBody : (raise k .nothing s).resBody = s.resBody := rfl
@[simp] theorem raise_nothing_malcnt : (raise k .nothing s).malcnt = s.malcnt := rfl
@[simp] theorem raise_nothing_buf : (raise k .nothing s).buf = s.buf := rfl
@[simp] theorem raise_nothing_blen : (raise k .nothing s).blen = s.blen := rfl
@[simp] theorem raise_nothing_dlcnt : (raise k .nothing s).dlcnt = s.dlcnt := rfl
@[simp] theorem raise_nothing_rtcnt : (raise k .nothing s).rtcnt = s.rtcnt := rfl
@[simp] theorem raise_nothing_hRdata : (raise k .nothing s).hRdata = s.hRdata := rfl
@[simp] theorem raise_nothing_lags : (raise k .nothing s).lags = s.lags := rfl
@[simp] theorem raise_nothing_due : (raise k .nothing s).due = s.due := rfl
@[simp] theorem raise_nothing_inbox : (raise k .nothing s).inbox = s.inbox := rfl
@[simp] theorem raise_nothing_rxq : (raise k .nothing s).rxq = s.rxq := rfl
@[simp] theorem raise_nothing_tx : (raise k .nothing s).tx = s.tx := rfl
@[simp] theorem raise_nothing_ticks : (raise k .nothing s).ticks = s.ticks := rfl
@[simp] theorem raise_nothing_cmdCount : (raise k .nothing s).cmdCount = s.cmdCount := rfl
@[simp] theorem raise_nothing_readCount : (raise k .nothing s).readCount = s.readCount := rfl

/-! ### raise_frame -/

@[simp] theorem raise_frame_lmax : (raise k (.frame f) s).lmax = s.lmax := rfl
@[simp] theorem raise_frame_curop : (raise k (.frame f) s).curop = .none := rfl
@[simp] theorem raise_frame_opst : (raise k (.frame f) s).opst = .idle := rfl
@[simp] theorem raise_frame_rs : (raise k (.frame f) s).rs = s.rs := rfl
@[simp] theorem raise_frame_txidx : (raise k (.frame f) s).txidx = s.txidx := rfl
@[simp] theorem raise_frame_ie : (raise k (.frame f) s).ie = s.ie := rfl
@[simp] theorem raise_frame_status : (raise k (.frame f) s).status = { s.status with busy := false, done := true } := rfl
@[simp] theorem raise_frame_expect : (raise k (.frame f) s).expect = s.expect := rfl
@[simp] theorem raise_frame_rdtmo : (raise k (.frame f) s).rdtmo = s.rdtmo := rfl
@[simp] theorem raise_frame_deadline : (raise k (.frame f) s).deadline = s.deadline := rfl
@[simp] theorem raise_frame_txTo : (raise k (.frame f) s).txTo = s.txTo := rfl
@[simp] theorem raise_frame_txFrom : (raise k (.frame f) s).txFrom = s.txFrom := rfl
@[simp] theorem raise_frame_txLen : (raise k (.frame f) s).txLen = s.txLen := rfl
@[simp] theorem raise_frame_txBody : (raise k (.frame f) s).txBody = s.txBody := rfl
@[simp] theorem raise_frame_result : (raise k (.frame f) s).result = ⟨k, some (classify f), true⟩ := rfl
@[simp] theorem raise_frame_resTo : (raise k (.frame f) s).resTo = f.dst := rfl
@[simp] theorem raise_frame_resFrom : (raise k (.frame f) s).resFrom = f.src := rfl
@[simp] theorem raise_frame_resLen : (raise k (.frame f) s).resLen = f.body.length := rfl
@[simp] theorem raise_frame_resBody : (raise k (.frame f) s).resBody = s.resBody.writeList 0 f.body := rfl
@[simp] theorem raise_frame_malcnt : (raise k (.frame f) s).malcnt = s.malcnt := rfl
@[simp] theorem raise_frame_buf : (raise k (.frame f) s).buf = s.buf := rfl
@[simp] theorem raise_frame_blen : (raise k (.frame f) s).blen = s.blen := rfl
@[simp] theorem raise_frame_dlcnt : (raise k (.frame f) s).dlcnt = s.dlcnt := rfl
@[simp] theorem raise_frame_rtcnt : (raise k (.frame f) s).rtcnt = s.rtcnt := rfl
@[simp] theorem raise_frame_hRdata : (raise k (.frame f) s).hRdata = s.hRdata := rfl
@[simp] theorem raise_frame_lags : (raise k (.frame f) s).lags = s.lags := rfl
@[simp] theorem raise_frame_due : (raise k (.frame f) s).due = s.due := rfl
@[simp] theorem raise_frame_inbox : (raise k (.frame f) s).inbox = s.inbox := rfl
@[simp] theorem raise_frame_rxq : (raise k (.frame f) s).rxq = s.rxq := rfl
@[simp] theorem raise_frame_tx : (raise k (.frame f) s).tx = s.tx := rfl
@[simp] theorem raise_frame_ticks : (raise k (.frame f) s).ticks = s.ticks := rfl
@[simp] theorem raise_frame_cmdCount : (raise k (.frame f) s).cmdCount = s.cmdCount := rfl
@[simp] theorem raise_frame_readCount : (raise k (.frame f) s).readCount = s.readCount := rfl

/-! ### raise_recorded -/

@[simp] theorem raise_recorded_lmax : (raise k .recorded s).lmax = s.lmax := rfl
@[simp] theorem raise_recorded_curop : (raise k .recorded s).curop = .none := rfl
@[simp] theorem raise_recorded_opst : (raise k .recorded s).opst = .idle := rfl
@[simp] theorem raise_recorded_rs : (raise k .recorded s).rs = s.rs := rfl
@[simp] theorem raise_recorded_txidx : (raise k .recorded s).txidx = s.txidx := rfl
@[simp] theorem raise_recorded_ie : (raise k .recorded s).ie = s.ie := rfl
@[simp] theorem raise_recorded_status : (raise k .recorded s).status = { s.status with busy := false, done := true } := rfl
@[simp] theorem raise_recorded_expect : (raise k .recorded s).expect = s.expect := rfl
@[simp] theorem raise_recorded_rdtmo : (raise k .recorded s).rdtmo = s.rdtmo := rfl
@[simp] theorem raise_recorded_deadline : (raise k .recorded s).deadline = s.deadline := rfl
@[simp] theorem raise_recorded_txTo : (raise k .recorded s).txTo = s.txTo := rfl
@[simp] theorem raise_recorded_txFrom : (raise k .recorded s).txFrom = s.txFrom := rfl
@[simp] theorem raise_recorded_txLen : (raise k .recorded s).txLen = s.txLen := rfl
@[simp] theorem raise_recorded_txBody : (raise k .recorded s).txBody = s.txBody := rfl
@[simp] theorem raise_recorded_result : (raise k .recorded s).result = { s.result with kind := k } := rfl
@[simp] theorem raise_recorded_resTo : (raise k .recorded s).resTo = s.resTo := rfl
@[simp] theorem raise_recorded_resFrom : (raise k .recorded s).resFrom = s.resFrom := rfl
@[simp] theorem raise_recorded_resLen : (raise k .recorded s).resLen = s.resLen := rfl
@[simp] theorem raise_recorded_resBody : (raise k .recorded s).resBody = s.resBody := rfl
@[simp] theorem raise_recorded_malcnt : (raise k .recorded s).malcnt = s.malcnt := rfl
@[simp] theorem raise_recorded_buf : (raise k .recorded s).buf = s.buf := rfl
@[simp] theorem raise_recorded_blen : (raise k .recorded s).blen = s.blen := rfl
@[simp] theorem raise_recorded_dlcnt : (raise k .recorded s).dlcnt = s.dlcnt := rfl
@[simp] theorem raise_recorded_rtcnt : (raise k .recorded s).rtcnt = s.rtcnt := rfl
@[simp] theorem raise_recorded_hRdata : (raise k .recorded s).hRdata = s.hRdata := rfl
@[simp] theorem raise_recorded_lags : (raise k .recorded s).lags = s.lags := rfl
@[simp] theorem raise_recorded_due : (raise k .recorded s).due = s.due := rfl
@[simp] theorem raise_recorded_inbox : (raise k .recorded s).inbox = s.inbox := rfl
@[simp] theorem raise_recorded_rxq : (raise k .recorded s).rxq = s.rxq := rfl
@[simp] theorem raise_recorded_tx : (raise k .recorded s).tx = s.tx := rfl
@[simp] theorem raise_recorded_ticks : (raise k .recorded s).ticks = s.ticks := rfl
@[simp] theorem raise_recorded_cmdCount : (raise k .recorded s).cmdCount = s.cmdCount := rfl
@[simp] theorem raise_recorded_readCount : (raise k .recorded s).readCount = s.readCount := rfl

/-! ### acceptSend -/

@[simp] theorem acceptSend_lmax : (acceptSend s).lmax = s.lmax := rfl
@[simp] theorem acceptSend_curop : (acceptSend s).curop = .send := rfl
@[simp] theorem acceptSend_opst : (acceptSend s).opst = .tx := rfl
@[simp] theorem acceptSend_rs : (acceptSend s).rs = s.rs := rfl
@[simp] theorem acceptSend_txidx : (acceptSend s).txidx = 0 := rfl
@[simp] theorem acceptSend_ie : (acceptSend s).ie = s.ie := rfl
@[simp] theorem acceptSend_status : (acceptSend s).status = { s.status with busy := true, done := false, uxseen := false } := rfl
@[simp] theorem acceptSend_expect : (acceptSend s).expect = s.expect := rfl
@[simp] theorem acceptSend_rdtmo : (acceptSend s).rdtmo = s.rdtmo := rfl
@[simp] theorem acceptSend_deadline : (acceptSend s).deadline = s.deadline := rfl
@[simp] theorem acceptSend_txTo : (acceptSend s).txTo = s.txTo := rfl
@[simp] theorem acceptSend_txFrom : (acceptSend s).txFrom = s.txFrom := rfl
@[simp] theorem acceptSend_txLen : (acceptSend s).txLen = s.txLen := rfl
@[simp] theorem acceptSend_txBody : (acceptSend s).txBody = s.txBody := rfl
@[simp] theorem acceptSend_result : (acceptSend s).result = ResultReg.cleared := rfl
@[simp] theorem acceptSend_resTo : (acceptSend s).resTo = 0 := rfl
@[simp] theorem acceptSend_resFrom : (acceptSend s).resFrom = 0 := rfl
@[simp] theorem acceptSend_resLen : (acceptSend s).resLen = 0 := rfl
@[simp] theorem acceptSend_resBody : (acceptSend s).resBody = s.resBody := rfl
@[simp] theorem acceptSend_malcnt : (acceptSend s).malcnt = 0 := rfl
@[simp] theorem acceptSend_buf : (acceptSend s).buf = s.buf := rfl
@[simp] theorem acceptSend_blen : (acceptSend s).blen = s.blen := rfl
@[simp] theorem acceptSend_dlcnt : (acceptSend s).dlcnt = s.dlcnt := rfl
@[simp] theorem acceptSend_rtcnt : (acceptSend s).rtcnt = s.rtcnt := rfl
@[simp] theorem acceptSend_hRdata : (acceptSend s).hRdata = s.hRdata := rfl
@[simp] theorem acceptSend_lags : (acceptSend s).lags = s.lags := rfl
@[simp] theorem acceptSend_due : (acceptSend s).due = s.due := rfl
@[simp] theorem acceptSend_inbox : (acceptSend s).inbox = s.inbox := rfl
@[simp] theorem acceptSend_rxq : (acceptSend s).rxq = s.rxq := rfl
@[simp] theorem acceptSend_tx : (acceptSend s).tx = s.tx := rfl
@[simp] theorem acceptSend_ticks : (acceptSend s).ticks = s.ticks := rfl
@[simp] theorem acceptSend_cmdCount : (acceptSend s).cmdCount = s.cmdCount + 1 := rfl
@[simp] theorem acceptSend_readCount : (acceptSend s).readCount = s.readCount := rfl

/-! ### acceptXact -/

@[simp] theorem acceptXact_lmax : (acceptXact s).lmax = s.lmax := rfl
@[simp] theorem acceptXact_curop : (acceptXact s).curop = .xact := rfl
@[simp] theorem acceptXact_opst : (acceptXact s).opst = .tx := rfl
@[simp] theorem acceptXact_rs : (acceptXact s).rs = s.rs := rfl
@[simp] theorem acceptXact_txidx : (acceptXact s).txidx = 0 := rfl
@[simp] theorem acceptXact_ie : (acceptXact s).ie = s.ie := rfl
@[simp] theorem acceptXact_status : (acceptXact s).status = { s.status with busy := true, done := false, uxseen := false } := rfl
@[simp] theorem acceptXact_expect : (acceptXact s).expect = s.expect := rfl
@[simp] theorem acceptXact_rdtmo : (acceptXact s).rdtmo = s.rdtmo := rfl
@[simp] theorem acceptXact_deadline : (acceptXact s).deadline = s.deadline := rfl
@[simp] theorem acceptXact_txTo : (acceptXact s).txTo = s.txTo := rfl
@[simp] theorem acceptXact_txFrom : (acceptXact s).txFrom = s.txFrom := rfl
@[simp] theorem acceptXact_txLen : (acceptXact s).txLen = s.txLen := rfl
@[simp] theorem acceptXact_txBody : (acceptXact s).txBody = s.txBody := rfl
@[simp] theorem acceptXact_result : (acceptXact s).result = ResultReg.cleared := rfl
@[simp] theorem acceptXact_resTo : (acceptXact s).resTo = 0 := rfl
@[simp] theorem acceptXact_resFrom : (acceptXact s).resFrom = 0 := rfl
@[simp] theorem acceptXact_resLen : (acceptXact s).resLen = 0 := rfl
@[simp] theorem acceptXact_resBody : (acceptXact s).resBody = s.resBody := rfl
@[simp] theorem acceptXact_malcnt : (acceptXact s).malcnt = 0 := rfl
@[simp] theorem acceptXact_buf : (acceptXact s).buf = s.buf := rfl
@[simp] theorem acceptXact_blen : (acceptXact s).blen = s.blen := rfl
@[simp] theorem acceptXact_dlcnt : (acceptXact s).dlcnt = s.deadline := rfl
@[simp] theorem acceptXact_rtcnt : (acceptXact s).rtcnt = s.rtcnt := rfl
@[simp] theorem acceptXact_hRdata : (acceptXact s).hRdata = s.hRdata := rfl
@[simp] theorem acceptXact_lags : (acceptXact s).lags = s.lags := rfl
@[simp] theorem acceptXact_due : (acceptXact s).due = s.due := rfl
@[simp] theorem acceptXact_inbox : (acceptXact s).inbox = s.inbox := rfl
@[simp] theorem acceptXact_rxq : (acceptXact s).rxq = s.rxq := rfl
@[simp] theorem acceptXact_tx : (acceptXact s).tx = s.tx := rfl
@[simp] theorem acceptXact_ticks : (acceptXact s).ticks = s.ticks := rfl
@[simp] theorem acceptXact_cmdCount : (acceptXact s).cmdCount = s.cmdCount + 1 := rfl
@[simp] theorem acceptXact_readCount : (acceptXact s).readCount = s.readCount := rfl

end Sys2Proof.Machine
end

