-- ==== Sys2Proof/Laws/Ops.lean ====
section
/-! SUPPORT. For each shared operation what it can do, said once: the cases of the reader and of the deadline check, and what no
byte of the receive stream changes. -/

namespace Sys2Proof.Machine

/-- The deadline check (R132) does one of three things. -/
theorem deadlineCheck_cases (s : State) :
    (s.dlcnt ≠ 0 ∧ deadlineCheck s = startInvocation s) ∨
    (s.dlcnt = 0 ∧ s.status.uxseen = true ∧ deadlineCheck s = raise .unexpected .recorded s) ∨
    (s.dlcnt = 0 ∧ s.status.uxseen = false ∧ deadlineCheck s = raise .timeout .nothing s) := by
  unfold deadlineCheck State.elapsed
  by_cases h : s.dlcnt = 0
  · cases hu : s.status.uxseen <;> simp [h]
  · exact .inl ⟨h, if_neg (by rw [decide_eq_true_eq]; exact h)⟩

/-- A step of the sequencer that comes next is taken now, or is due (R206, R234). -/
theorem orLater_cases (a : Due) (now : State → State) (s : State) :
    (s.lags = false ∧ orLater a now s = now s) ∨ (s.lags = true ∧ orLater a now s = { s with due := some a }) := by
  unfold orLater
  cases s.lags <;> simp

theorem orLater_now (a : Due) (now : State → State) (s : State) (h : s.lags = false) : orLater a now s = now s := by
  simp [orLater, h]

theorem orLater_due (a : Due) (now : State → State) (s : State) (h : s.lags = true) :
    orLater a now s = { s with due := some a } := by simp [orLater, h]

/-- A terminal frame (R116, R130) raises the outcome of its class. -/
theorem raiseTerminal_cases (f : Frame) (s : State) :
    (classify f = .freq ∧ raiseTerminal f s = raise .data (.frame f) s) ∨
    (classify f = .ack ∧ raiseTerminal f s = raise .ack .nothing s) ∨
    (classify f = .nak ∧ raiseTerminal f s = raise .nak .nothing s) ∨
    (classify f = .other ∧ raiseTerminal f s = s) ∨ (classify f = .noopc ∧ raiseTerminal f s = s) := by
  unfold raiseTerminal
  cases classify f <;> simp [outcomeOf, Kind.carriesFrame]

/-- What XACT does with a reader invocation (R130 to R134). -/
theorem xactInvocationEnd_cases (r : ReadEnd) (s : State) :
    (∃ f, r = .frame f ∧ terminal (classify f) s.expect = true ∧ xactInvocationEnd r s = raiseTerminal f s) ∨
    (∃ f, r = .frame f ∧ terminal (classify f) s.expect = false ∧
      xactInvocationEnd r s = checkNext (recordUnexpected f s)) ∨
    ((r = .malformed ∨ r = .timeout) ∧ xactInvocationEnd r s = checkNext s) := by
  cases r with
  | frame f => cases h : terminal (classify f) s.expect <;> simp [xactInvocationEnd, h]
  | malformed => simp [xactInvocationEnd]
  | timeout => simp [xactInvocationEnd]

/-- A byte in each step of the reader (R92 to R100). -/
theorem readByte_cases (b : Byte) (s : State) :
    (s.rs = .hunt1 ∧ b ≠ Config.preamble ∧ readByte b s = startRead s) ∨
    (s.rs = .hunt1 ∧ b = Config.preamble ∧ readByte b s = startRead { s with rs := .hunt2 }) ∨
    (s.rs = .hunt2 ∧ b = Config.preamble ∧ readByte b s = startRead { s with rs := .accum }) ∨
    (s.rs = .hunt2 ∧ b ≠ Config.preamble ∧ readByte b s = startRead { s with rs := .hunt1 }) ∨
    (s.rs = .accum ∧ b = Config.term ∧ readByte b s = spanComplete s) ∨
    (s.rs = .accum ∧ b ≠ Config.term ∧ s.blen < s.lmax ∧ readByte b s = startRead (accumulate b s)) ∨
    (s.rs = .accum ∧ b ≠ Config.term ∧ s.lmax ≤ s.blen ∧ readByte b s = bufferOverflow s) := by
  cases hr : s.rs with
  | hunt1 => by_cases h : b = Config.preamble <;> simp [readByte, hr, h]
  | hunt2 => by_cases h : b = Config.preamble <;> simp [readByte, hr, h]
  | accum =>
    by_cases h : b = Config.term
    · simp [readByte, hr, h]
    · by_cases hl : s.blen < s.lmax
      · simp [readByte, hr, h, hl]
      · simp [readByte, hr, h, hl]; omega

/-- What the receive stream leaves alone (R90, R191): the operand registers, the build, the transmit side, the deadline counter and
the host's flag. -/
def ReceiveFrame (s t : State) : Prop :=
  t.lmax = s.lmax ∧ t.lags = s.lags ∧ t.txidx = s.txidx ∧ t.ie = s.ie ∧ t.expect = s.expect ∧ t.rdtmo = s.rdtmo ∧ t.deadline = s.deadline ∧
  t.txTo = s.txTo ∧ t.txFrom = s.txFrom ∧ t.txLen = s.txLen ∧ t.txBody = s.txBody ∧ t.dlcnt = s.dlcnt ∧
  t.hRdata = s.hRdata ∧ t.inbox = s.inbox ∧ t.tx = s.tx ∧ t.ticks = s.ticks ∧ t.cmdCount = s.cmdCount ∧
  t.readCount = s.readCount ∧ t.status.cmderr = s.status.cmderr

theorem ReceiveFrame.refl (s : State) : ReceiveFrame s s := by simp [ReceiveFrame]

theorem ReceiveFrame.trans {s t u : State} (h : ReceiveFrame s t) (h' : ReceiveFrame t u) : ReceiveFrame s u := by
  simp only [ReceiveFrame] at *
  simp_all

theorem raise_receiveFrame (k : Kind) (info : Info) (s : State) : ReceiveFrame s (raise k info s) := by
  cases info <;> simp [ReceiveFrame]

theorem deadlineCheck_receiveFrame (s : State) : ReceiveFrame s (deadlineCheck s) := by
  rcases deadlineCheck_cases s with ⟨-, h⟩ | ⟨-, -, h⟩ | ⟨-, -, h⟩ <;> rw [h]
  · simp [ReceiveFrame]
  · exact raise_receiveFrame _ _ s
  · exact raise_receiveFrame _ _ s

theorem orLater_receiveFrame (a : Due) (now : State → State) (s : State) (h : ReceiveFrame s (now s)) :
    ReceiveFrame s (orLater a now s) := by
  rcases orLater_cases a now s with ⟨-, e⟩ | ⟨-, e⟩ <;> rw [e]
  · exact h
  · simp [ReceiveFrame]

theorem checkNext_receiveFrame (s : State) : ReceiveFrame s (checkNext s) :=
  orLater_receiveFrame _ _ s (deadlineCheck_receiveFrame s)

theorem invocationEnd_receiveFrame (r : ReadEnd) (s : State) : ReceiveFrame s (invocationEnd r s) := by
  unfold invocationEnd
  cases s.curop with
  | none => exact .refl s
  | send => exact .refl s
  | rdf => cases r <;> exact raise_receiveFrame _ _ s
  | xact =>
    rcases xactInvocationEnd_cases r s with ⟨f, -, -, h⟩ | ⟨f, -, -, h⟩ | ⟨-, h⟩ <;> simp only [h]
    · rcases raiseTerminal_cases f s with ⟨-, h⟩ | ⟨-, h⟩ | ⟨-, h⟩ | ⟨-, h⟩ | ⟨-, h⟩ <;> rw [h]
      · exact raise_receiveFrame _ _ s
      · exact raise_receiveFrame _ _ s
      · exact raise_receiveFrame _ _ s
      · exact .refl s
      · exact .refl s
    · exact .trans (by simp [ReceiveFrame]) (checkNext_receiveFrame _)
    · exact checkNext_receiveFrame s

theorem invocationReturns_receiveFrame (r : ReadEnd) (s : State) : ReceiveFrame s (invocationReturns r s) :=
  orLater_receiveFrame _ _ s (invocationEnd_receiveFrame r s)

theorem spanComplete_receiveFrame (s : State) : ReceiveFrame s (spanComplete s) := by
  unfold spanComplete
  cases decodeSpan s.span with
  | some f => exact invocationReturns_receiveFrame _ s
  | none => exact .trans (by simp [ReceiveFrame]) (invocationReturns_receiveFrame .malformed (countMalformed s))

theorem readByte_receiveFrame (b : Byte) (s : State) : ReceiveFrame s (readByte b s) := by
  rcases readByte_cases b s with ⟨-, -, h⟩ | ⟨-, -, h⟩ | ⟨-, -, h⟩ | ⟨-, -, h⟩ | ⟨-, -, h⟩ | ⟨-, -, -, h⟩ | ⟨-, -, -, h⟩ <;> rw [h]
  · simp [ReceiveFrame]
  · simp [ReceiveFrame]
  · simp [ReceiveFrame]
  · simp [ReceiveFrame]
  · exact spanComplete_receiveFrame s
  · simp [ReceiveFrame]
  · exact .trans (by simp [ReceiveFrame]) (invocationReturns_receiveFrame .malformed _)

theorem takeBytes_receiveFrame (bs : List Byte) (s : State) : ReceiveFrame s (takeBytes bs s) := by
  induction bs generalizing s with
  | nil => simp [takeBytes, ReceiveFrame]
  | cons b bs ih =>
    simp only [takeBytes]
    split
    · exact (readByte_receiveFrame b s).trans (ih _)
    · simp [ReceiveFrame]

/-- No byte of the receive stream changes what `ReceiveFrame` lists. -/
theorem arrive_receiveFrame (bs : List Byte) (s : State) : ReceiveFrame s (arrive bs s) :=
  .trans (by simp [ReceiveFrame]) (takeBytes_receiveFrame _ _)

/-- While no byte read is pending, arriving bytes wait in the transport and nothing else changes (R43). -/
theorem takeBytes_waits (bs : List Byte) (s : State) (h : ¬ s.reading) : takeBytes bs s = { s with rxq := bs } := by
  cases bs with
  | nil => rfl
  | cons b bs => simp [takeBytes, h]

theorem takeBytes_nil (s : State) : takeBytes [] s = { s with rxq := [] } := rfl

theorem takeBytes_cons (b : Byte) (bs : List Byte) (s : State) (h : s.reading) :
    takeBytes (b :: bs) s = takeBytes bs (readByte b s) := by simp [takeBytes, h]

/-- What taking the step that is due does: nothing when none is, else that step, and then the held bytes (R206). -/
theorem settle_none (s : State) (h : s.due = none) : settle s = s := by simp [settle, h]

theorem settle_some (a : Due) (s : State) (h : s.due = some a) :
    settle s = takeHeld (perform a { s with due := none }) := by simp [settle, h]

/-- A running command takes the next stimulus of the transport; anything else it leaves. -/
theorem drive_cons (e : Stimulus) (es : List Stimulus) (s : State) :
    drive (e :: es) s =
      if s.status.busy = true ∧ e.isTransport = true then drive es (deliver e s) else { s with inbox := e :: es } := rfl

/-- A command that has ended leaves the environment's stimuli. -/
theorem drive_idle (es : List Stimulus) (s : State) (h : s.status.busy = false) : drive es s = { s with inbox := es } := by
  cases es with
  | nil => rfl
  | cons e es => simp [drive, h]

end Sys2Proof.Machine
end

