-- ==== Sys2Proof/Laws/PerInstr.lean ====
section
/-! SUPPORT. The family `ImageShape`: every instruction's image has the form its format gives it, a command word whose bits 31:3
are 0 (R69), or bytes that begin with the preamble twice and end with the terminator, with no length field between (R60). -/

namespace Sys2Proof.Laws.ImageShape

open Sys2Proof Machine

/-- The form of an image. -/
def Shape : Image → Prop
  | .cmd w => w.toNat < 8
  | .wire bytes => ∃ span, bytes = Config.preamble :: Config.preamble :: (span ++ [Config.term])

/-- The image of `i` has the form of its format. -/
def Statement (i : Instr) : Prop := Shape (encode i)

/-- A frame has the form of the wire format (R60). -/
theorem frame_shape (dst src : Byte) (body : List Byte) : Shape (.wire (encodeFrame dst src body)) :=
  ⟨dst :: src :: body, rfl⟩

theorem nop : Statement .nop := by simp [Statement, Shape, encode]
theorem send : Statement .send := by simp [Statement, Shape, encode]
theorem rdf : Statement .rdf := by simp [Statement, Shape, encode]
theorem xact : Statement .xact := by simp [Statement, Shape, encode]
theorem cmdReserved (lo : BitVec 2) : Statement (.cmdReserved lo) := by
  revert lo; unfold Statement Shape encode; decide
theorem freqQuery (dst src : Byte) : Statement (.freqQuery dst src) := frame_shape dst src _
theorem freqReport (dst src : Byte) (payload : List Byte) : Statement (.freqReport dst src payload) := frame_shape dst src _
theorem setDate (dst src sub op yyHi yyLo mm dd : Byte) : Statement (.setDate dst src sub op yyHi yyLo mm dd) :=
  frame_shape dst src _
theorem setTimeHM (dst src sub op hh mm : Byte) : Statement (.setTimeHM dst src sub op hh mm) := frame_shape dst src _
theorem setTimeHMS (dst src sub op hh mm ss : Byte) : Statement (.setTimeHMS dst src sub op hh mm ss) := frame_shape dst src _
theorem ack (dst src : Byte) (extra : List Byte) : Statement (.ack dst src extra) := frame_shape dst src _
theorem nak (dst src : Byte) (extra : List Byte) : Statement (.nak dst src extra) := frame_shape dst src _
theorem other (dst src op : Byte) (rest : List Byte) : Statement (.other dst src op rest) := frame_shape dst src _
theorem noopc (dst src : Byte) : Statement (.noopc dst src) := frame_shape dst src _
theorem undersized (x : Option Byte) : Statement (.undersized x) := ⟨x.toList, rfl⟩

end Sys2Proof.Laws.ImageShape
end

