-- ==== Sys2Proof/Laws/Reader.lean ====
section
/-! SUPPORT. The reader over a whole span: the preamble, any bytes but the terminator, the terminator (R93, R95, R98, R99). -/

namespace Sys2Proof.Machine

@[simp] theorem State.heard_span (s : State) (span : List Byte) : (s.heard span).span = span :=
  Memory.slice_writeList _ _ _

theorem plain_iff (b : Byte) : plain b = true ↔ b ≠ Config.term := by simp [plain]

/-- Accumulating a stretch of bytes that fits and holds no terminator (R99). -/
theorem takeBytes_accumulate (span rest : List Byte) (s : State) (ho : s.reading) (hr : s.rs = .accum)
    (hp : span.all plain = true) (hl : s.blen + span.length ≤ s.lmax) (ht : s.rtcnt = s.rdtmo) :
    takeBytes (span ++ rest) s =
      takeBytes rest { s with buf := s.buf.writeList s.blen span, blen := s.blen + span.length } := by
  induction span generalizing s with
  | nil => rfl
  | cons b span ih =>
    simp only [List.all_cons, Bool.and_eq_true, plain_iff] at hp
    simp only [List.length_cons] at hl
    have hb : readByte b s = startRead (accumulate b s) := by
      simp only [readByte, hr, hp.1, if_false, if_pos (show s.blen < s.lmax by omega)]
    rw [List.cons_append, takeBytes_cons _ _ _ ho, hb, ih (startRead (accumulate b s)) ho (by simpa using hr)
      hp.2 (by simp; omega) (by simp)]
    congr 1
    simp only [startRead, accumulate, Memory.writeList, List.length_cons, ht]
    rw [show s.blen + 1 + span.length = s.blen + (span.length + 1) by omega]

/-- A delimited span read from the start of an invocation: the decoder and the running command go on with it (R98). -/
theorem takeBytes_delimited (span rest : List Byte) (s : State) (ho : s.reading) (hr : s.rs = .hunt1) (hb : s.blen = 0)
    (hp : span.all plain = true) (hl : span.length ≤ s.lmax) :
    takeBytes (Config.preamble :: Config.preamble :: (span ++ Config.term :: rest)) s =
      takeBytes rest (spanComplete (s.heard span)) := by
  have h1 : readByte Config.preamble s = startRead { s with rs := .hunt2 } := by simp [readByte, hr]
  have h2 : readByte Config.preamble (startRead { s with rs := .hunt2 }) = startRead { s with rs := .accum } := by
    simp [readByte, startRead]
  rw [takeBytes_cons _ _ _ ho, h1, takeBytes_cons _ _ (startRead { s with rs := .hunt2 }) ho, h2,
    takeBytes_accumulate span _ (startRead { s with rs := .accum }) ho rfl hp (by simpa [startRead, hb] using hl) rfl]
  have e : ({ startRead { s with rs := .accum } with
      buf := (startRead { s with rs := .accum }).buf.writeList (startRead { s with rs := .accum }).blen span
      blen := (startRead { s with rs := .accum }).blen + span.length } : State) = s.heard span := by
    simp [startRead, State.heard, hb]
  rw [e, takeBytes_cons _ _ (s.heard span) ho]
  simp [readByte, State.heard]

/-- A frame that arrives at a reader at the start of an invocation. -/
theorem arrive_frame (dst src : Byte) (body : List Byte) (s : State) (h : s.readerFresh)
    (hp : (dst :: src :: body).all plain = true) (hl : body.length + 2 ≤ s.lmax) :
    arrive (encodeFrame dst src body) s =
      takeBytes [] (invocationReturns (.frame ⟨dst, src, body⟩) ({ s with rxq := encodeFrame dst src body }.heard (dst :: src :: body))) := by
  obtain ⟨ho, hr, hb, hq⟩ := h
  unfold arrive takeHeld
  rw [hq, List.nil_append]
  have := takeBytes_delimited (dst :: src :: body) [] { s with rxq := encodeFrame dst src body } ho hr hb hp hl
  simp only [List.cons_append] at this
  rw [show ({ s with rxq := encodeFrame dst src body } : State).rxq = encodeFrame dst src body from rfl]
  unfold encodeFrame at this ⊢
  rw [this]
  simp [spanComplete, decodeSpan]

end Sys2Proof.Machine
end

