-- ==== Sys2Proof/Laws/Run.lean ====
section
/-! SUPPORT. What the operations over runs do: a step answered, a host access, a host program in parts, a stream. -/

namespace Sys2Proof.Machine

theorem nextState_of_step {s t : State} (h : step s = .next t) : nextState s = t := by simp [nextState, h]

/-- A host read made now: the word on `h_rdata`, and nothing else of the block. -/
theorem hostAccess_read (n : RegNum) (s : State) :
    hostAccess (.read n) s =
      { s with hRdata := readValue (Reg.ofNum s.bmax n) s, readCount := s.readCount + 1 } := rfl

/-- A host write made now to any register but `CMD`. -/
theorem hostAccess_write (n : RegNum) (d : Word) (s : State) (h : n ≠ RegNum.cmd) :
    hostAccess (.write n d) s = { hostWrite n d s with inbox := s.inbox } := by
  have hstep : step { s with inbox := .write n d :: s.inbox } = .next (hostWrite n d { s with inbox := s.inbox }) := by
    simp [step, fetch, Stimulus.image?, h, deliver]
  rw [hostAccess, nextState_of_step hstep]
  unfold hostWrite
  split
  · rfl
  · cases Reg.ofNum s.bmax n <;> simp [writeReg, State.bmax]

@[simp] theorem streamRun_zero (env : Nat → Stimulus) (s : State) : streamRun env s 0 = s := rfl
@[simp] theorem streamRun_succ (env : Nat → Stimulus) (s : State) (n : Nat) :
    streamRun env s (n + 1) = feed (env n) (streamRun env s n) := rfl

/-- With nothing before it in the inbox, the stimulus fed is the one the step takes. -/
theorem feed_of_empty (e : Stimulus) (s : State) (h : s.inbox = []) : feed e s = hostAccess e s := by
  simp [feed, hostAccess, h]

theorem hostRun_add (m n : Nat) (h : HostRun) : hostRun (m + n) h = hostRun n (hostRun m h) := by
  induction m generalizing h with
  | zero => simp [hostRun]
  | succ m ih => rw [Nat.succ_add]; exact ih (hostStep h)

end Sys2Proof.Machine
end

