-- ==== Sys2Proof/Tests/Slice0.lean ====
section
/-! SUPPORT. The model's own tests: ill-formed terms refused, words written out from the spec's encodings decoded, the spec's
vectors (95_test_vectors.md, cited by their ids) as single steps, and for each statement with hypotheses a witness that meets
them. -/

namespace Sys2Proof.Tests

open Sys2Proof Sys2Proof.Machine

/-! ### Small states -/

/-- Idle, with the settings common to the vectors (95_test_vectors.md, Conventions): `LMAX = 16`, `RDTMO = 10`,
`DEADLINE = 100`, the request `5A E0 [03]`. -/
def idle : State :=
  { State.reset with lmax := 16, rdtmo := 10, deadline := 100, expect := 1, txTo := 0x5A, txFrom := 0xE0, txLen := 1, txBody := [(0, 0x03)] }

/-- `idle` with EXPECT and what the environment does next. -/
def ready (expect : BitVec 3) (es : List Stimulus) : State := { idle with expect := expect, inbox := es }

theorem ready_inbox (e : BitVec 3) (es : List Stimulus) : (ready e es).inbox = es := rfl

/-- A command that reads, at the start of a reader invocation. -/
def reading (op : CurOp) (expect : BitVec 3) (es : List Stimulus) : State :=
  { idle with status := ⟨true, false, false, false, false⟩, curop := op, opst := .rd, rtcnt := 10, dlcnt := 100, expect := expect, inbox := es }

/-- An XACT that transmits, three bytes of its request put. -/
def sending (es : List Stimulus) : State :=
  { idle with status := ⟨true, false, false, false, false⟩, curop := .xact, opst := .tx, txidx := 3, dlcnt := 100, tx := [0xFE, 0xFE, 0x5A], inbox := es }

/-- `n` accepted bytes. -/
def accepts (n : Nat) : List Stimulus := List.replicate n .txReady

/-- `RESULT`, `STATUS`, `RES_TO`, `RES_FROM`, `RES_LEN`, `MALCNT` after a step. -/
def seen (o : Host.Outcome State Fault Refusal) : Option (Nat × Nat × Nat × Nat × Nat × Nat) :=
  match o with
  | .next t => some (t.result.word.toNat, t.status.word.toNat, t.resTo.toNat, t.resFrom.toNat, t.resLen, t.malcnt.toNat)
  | _ => none

/-- The transmit stream after a step. -/
def sent (o : Host.Outcome State Fault Refusal) : Option (List Byte) :=
  match o with
  | .next t => some t.tx
  | _ => none

/-- The unread bytes and the ticks after a step. -/
def left (o : Host.Outcome State Fault Refusal) : Option (List Byte × Nat) :=
  match o with
  | .next t => some (t.rxq, t.ticks)
  | _ => none

/-! ### WellFormed: an ill-formed term for each check -/

theorem test_wf_dst : (Instr.freqQuery 0xFD 0xE0).wellFormed = false := by decide
theorem test_wf_src : (Instr.noopc 0x5A 0xFD).wellFormed = false := by decide
theorem test_wf_payload_plain : (Instr.freqReport 0xE0 0x5A [0x00, 0xFD]).wellFormed = false := by decide
theorem test_wf_payload_nonempty : (Instr.freqReport 0xE0 0x5A []).wellFormed = false := by decide
theorem test_wf_sub : (Instr.setDate 0x5A 0xE0 0xFD 0x94 0x20 0x24 0x04 0x13).wellFormed = false := by decide
theorem test_wf_bcd_high : (Instr.setDate 0x5A 0xE0 0x00 0x94 0xA0 0x24 0x04 0x13).wellFormed = false := by decide
theorem test_wf_bcd_low : (Instr.setTimeHM 0x5A 0xE0 0x00 0x95 0x23 0x5A).wellFormed = false := by decide
theorem test_wf_bcd_seconds : (Instr.setTimeHMS 0x5A 0xE0 0x00 0x95 0x07 0x05 0x0A).wellFormed = false := by decide
theorem test_wf_ack_extra : (Instr.ack 0xE0 0x5A [0xFD]).wellFormed = false := by decide
theorem test_wf_nak_extra : (Instr.nak 0xE0 0x5A [0xFD]).wellFormed = false := by decide
theorem test_wf_other_class : (Instr.other 0xE0 0x5A 0xFB []).wellFormed = false := by decide
theorem test_wf_other_row : (Instr.other 0x5A 0xE0 0x1A [0x05, 0x00, 0x95, 0x23, 0x59]).wellFormed = false := by decide
theorem test_wf_undersized : (Instr.undersized (some 0xFD)).wellFormed = false := by decide

/-! ### Decoding: words written out from the spec's encodings (R61, R69, R146 to R152) -/

theorem test_decode_nop : decodeTableWord 8 0b00000000 = some .nop := by decide
theorem test_decode_send : decodeTableWord 8 0b00000001 = some .send := by decide
theorem test_decode_rdf : decodeTableWord 8 0b00000010 = some .rdf := by decide
theorem test_decode_xact : decodeTableWord 8 0b00000011 = some .xact := by decide
theorem test_decode_cmdReserved : decodeTableWord 8 0b00000101 = some (.cmdReserved 1) := by decide
theorem test_decode_ignored_bits : decode (.cmd 0xFFFFFFF9) = .ok .send := by rfl

/-- S2, V-EN-1. -/
theorem test_decode_freqQuery :
    decodeWire [0b11111110, 0b11111110, 0b01011010, 0b11100000, 0b00000011, 0b11111101] = .ok (.freqQuery 0x5A 0xE0) := by rfl

/-- S3 with the payload of V-CV-9. -/
theorem test_decode_freqReport :
    decodeWire [0b11111110, 0b11111110, 0b11100000, 0b01011010, 0b00000011, 0x00, 0x00, 0x10, 0x14, 0x00, 0b11111101] =
      .ok (.freqReport 0xE0 0x5A [0x00, 0x00, 0x10, 0x14, 0x00]) := by rfl

/-- V-CV-3. -/
theorem test_decode_setDate :
    decodeWire [0b11111110, 0b11111110, 0x5A, 0xE0, 0b00011010, 0b00000101, 0x00, 0x94, 0x20, 0x24, 0x04, 0x13, 0b11111101] =
      .ok (.setDate 0x5A 0xE0 0x00 0x94 0x20 0x24 0x04 0x13) := by rfl

/-- V-CV-6. -/
theorem test_decode_setTimeHM :
    decodeWire [0b11111110, 0b11111110, 0x5A, 0xE0, 0b00011010, 0b00000101, 0x00, 0x95, 0x23, 0x59, 0b11111101] =
      .ok (.setTimeHM 0x5A 0xE0 0x00 0x95 0x23 0x59) := by rfl

/-- V-CV-5. -/
theorem test_decode_setTimeHMS :
    decodeWire [0b11111110, 0b11111110, 0x5A, 0xE0, 0b00011010, 0b00000101, 0x00, 0x95, 0x07, 0x05, 0x09, 0b11111101] =
      .ok (.setTimeHMS 0x5A 0xE0 0x00 0x95 0x07 0x05 0x09) := by rfl

/-- S6. -/
theorem test_decode_ack :
    decodeWire [0b11111110, 0b11111110, 0b11100000, 0b01011010, 0b11111011, 0b11111101] = .ok (.ack 0xE0 0x5A []) := by rfl

/-- S6. -/
theorem test_decode_nak :
    decodeWire [0b11111110, 0b11111110, 0b11100000, 0b01011010, 0b11111010, 0b11111101] = .ok (.nak 0xE0 0x5A []) := by rfl

/-- The frame of V-XA-6. -/
theorem test_decode_other :
    decodeWire [0b11111110, 0b11111110, 0b11100000, 0b01011010, 0b00000110, 0x01, 0b11111101] =
      .ok (.other 0xE0 0x5A 0x06 [0x01]) := by rfl

/-- The frame of V-RD-8. -/
theorem test_decode_noopc :
    decodeWire [0b11111110, 0b11111110, 0b11100000, 0b01011010, 0b11111101] = .ok (.noopc 0xE0 0x5A) := by rfl

/-- The spans of V-RD-6 and V-RD-7. -/
theorem test_decode_undersized :
    decodeWire [0b11111110, 0b11111110, 0b11111101] = .ok (.undersized none) ∧
    decodeWire [0b11111110, 0b11111110, 0b11100000, 0b11111101] = .ok (.undersized (some 0xE0)) := ⟨rfl, rfl⟩

/-- The table's numbering: bit 0 is the least significant bit of the first byte on the wire. -/
theorem test_decode_table_numbering : decodeTableWord 48 0xFDFBE05AFEFE = some (.ack 0x5A 0xE0 []) := by decide

/-- The same frame as the table writes `match`: the first byte on the wire leftmost. -/
theorem test_decode_table_leftmost_first : decodeTableWord 48 0xFEFE5AE0FBFD = some (.ack 0x5A 0xE0 []) := by decide

/-- V-DC-5: no preamble, no terminator, and a terminator inside. -/
theorem test_decode_rejects :
    decodeWire [0xFE, 0xE0, 0x5A, 0xFB, 0xFD] = .error .noPreamble ∧
    decodeWire [0xFE, 0xFE, 0xE0, 0x5A, 0xFB] = .error .noTerminator ∧
    decodeWire [0xFE, 0xFE, 0xE0, 0x5A, 0xFD, 0x01, 0xFD] = .error .innerTerminator := ⟨rfl, rfl, rfl⟩

/-! ### The codec and the fields -/

/-- V-EN-4 and V-DC-4: no value is refused or escaped, and the pure decoder looks at the ends only. -/
theorem test_codec_markers_inside :
    encodeFrame 0xFD 0xFE [0xFE, 0xFD] = [0xFE, 0xFE, 0xFD, 0xFE, 0xFE, 0xFD, 0xFD] ∧
    decodeWhole [0xFE, 0xFE, 0xE0, 0x5A, 0xFD, 0x01, 0xFD] = some ⟨0xE0, 0x5A, [0xFD, 0x01]⟩ := by decide

/-- V-EN-3: the form with four operands. -/
theorem test_encode_fields :
    encodeFields 0x5A 0xE0 [0x1A, 0x05, 0x00, 0x94] [0x20, 0x24, 0x04, 0x13] =
      [0xFE, 0xFE, 0x5A, 0xE0, 0x1A, 0x05, 0x00, 0x94, 0x20, 0x24, 0x04, 0x13, 0xFD] := by decide

/-- The flat numbers of the programs in 95_test_vectors.md: `(0008,…)` is TX_LEN, `(1003,…)` is TX_BODY[3]. -/
theorem test_flat_numbers :
    Reg.ofNum 14 (RegNum.ofFlat 0x0008) = .txLen ∧ Reg.ofNum 14 (RegNum.ofFlat 0x1003) = .txBody 3 := by decide

/-- V-CV-1 and V-CV-2. -/
theorem test_bcd : [0, 1, 9, 10, 12, 23, 31, 59, 99].map bcd = [0x00, 0x01, 0x09, 0x10, 0x12, 0x23, 0x31, 0x59, 0x99] ∧
    bcdYear 2024 = [0x20, 0x24] ∧ bcdYear 9999 = [0x99, 0x99] := by decide

/-- V-CV-9. -/
theorem test_freqPayload : freqPayload 14100000 = [0x00, 0x00, 0x10, 0x14, 0x00] ∧
    freqPayload 145500000 = [0x00, 0x00, 0x50, 0x45, 0x01] := by decide

/-! ### One step on each instruction -/

/-- V-EN-10: NOP changes nothing. -/
theorem test_nop_idle : step (ready 1 [.write ⟨0, 0⟩ 0]) = .next (ready 1 []) := by rfl

/-- V-EN-6. -/
theorem test_send : seen (step (ready 1 (.write ⟨0, 0⟩ 1 :: accepts 6))) = some (0x07, 0x02, 0, 0, 0, 0) ∧
    sent (step (ready 1 (.write ⟨0, 0⟩ 1 :: accepts 6))) = some [0xFE, 0xFE, 0x5A, 0xE0, 0x03, 0xFD] := by decide

/-- V-EN-9: `TX_LEN = 15 > BMAX`. -/
theorem test_send_oversize : seen (exec .send { idle with txLen := 15 }) = some (0x00, 0x10, 0, 0, 0, 0) := by decide

/-- V-RD-9: noise that ends in a lone `FE`. -/
theorem test_rdf_lone_FE :
    seen (step (ready 1 [.write ⟨0, 0⟩ 2, .rx [0x12, 0xFE, 0xFE, 0xFE, 0xE0, 0x5A, 0xFB, 0xFD]])) =
      some (0xC8, 0x02, 0xFE, 0xE0, 2, 0) := by decide

/-- V-RD-13, `LMAX = 10`: the byte `1B` overflows, `1C FD` stays unread. -/
theorem test_rdf_overflow :
    seen (exec .rdf { ready 1 [.rx [0xFE, 0xFE, 0x11, 0x12, 0x13, 0x14, 0x15, 0x16, 0x17, 0x18, 0x19, 0x1A, 0x1B, 0x1C, 0xFD]]
      with lmax := 10 }) = some (0x06, 0x0A, 0, 0, 0, 1) ∧
    left (exec .rdf { ready 1 [.rx [0xFE, 0xFE, 0x11, 0x12, 0x13, 0x14, 0x15, 0x16, 0x17, 0x18, 0x19, 0x1A, 0x1B, 0x1C, 0xFD]]
      with lmax := 10 }) = some ([0x1C, 0xFD], 0) := by decide

/-- V-XA-4: `DEADLINE = 0` on a silent line, the reader runs once: TIMEOUT at tick 10. -/
theorem test_xact_silent :
    seen (exec .xact { ready 1 (accepts 6 ++ silentCycles 11) with deadline := 0 }) = some (0x05, 0x02, 0, 0, 0, 0) ∧
    left (exec .xact { ready 1 (accepts 6 ++ silentCycles 11) with deadline := 0 }) = some ([], 10) := by decide

/-- V-XA-1 from the acceptance. -/
theorem test_xact_data :
    seen (exec .xact (ready 1 (accepts 6 ++ [Stimulus.rx [0xFE, 0xFE, 0xE0, 0x5A, 0x03, 0x00, 0x00, 0x10, 0x14, 0x00, 0xFD]]))) =
      some (0x91, 0x02, 0xE0, 0x5A, 6, 0) := by decide

/-- V-CE-2. -/
theorem test_cmdReserved : seen (step (ready 1 [.write ⟨0, 0⟩ 7])) = some (0x00, 0x10, 0, 0, 0, 0) := by decide

/-- V-XA-17: the block's own query echoed. -/
theorem test_freqQuery_echo :
    seen (step (reading .xact 1 [.rx [0xFE, 0xFE, 0x5A, 0xE0, 0x03, 0xFD]])) = some (0x91, 0x02, 0x5A, 0xE0, 1, 0) := by decide

/-- V-XA-1. -/
theorem test_freqReport :
    seen (step (reading .xact 1 [.rx [0xFE, 0xFE, 0xE0, 0x5A, 0x03, 0x00, 0x00, 0x10, 0x14, 0x00, 0xFD]])) =
      some (0x91, 0x02, 0xE0, 0x5A, 6, 0) := by decide

/-- V-CV-8: SET_DATE received is of class OTHER. -/
theorem test_setDate_received :
    seen (exec (.setDate 0x5A 0xE0 0x00 0x94 0x20 0x24 0x04 0x13) (reading .rdf 0 [])) = some (0xC8, 0x02, 0x5A, 0xE0, 8, 0) := by decide

/-- V-CV-8. -/
theorem test_setTimeHM_received :
    seen (exec (.setTimeHM 0x5A 0xE0 0x00 0x95 0x23 0x59) (reading .rdf 0 [])) = some (0xC8, 0x02, 0x5A, 0xE0, 6, 0) := by decide

/-- V-CV-8. -/
theorem test_setTimeHMS_received :
    seen (exec (.setTimeHMS 0x5A 0xE0 0x00 0x95 0x07 0x05 0x09) (reading .rdf 0 [])) = some (0xC8, 0x02, 0x5A, 0xE0, 7, 0) := by decide

/-- V-XA-14: an ACK, the NAK behind it stays unread. -/
theorem test_ack :
    seen (step (reading .xact 6 [.rx [0xFE, 0xFE, 0xE0, 0x5A, 0xFB, 0xFD, 0xFE, 0xFE, 0xE0, 0x5A, 0xFA, 0xFD]])) =
      some (0x02, 0x02, 0, 0, 0, 0) ∧
    left (step (reading .xact 6 [.rx [0xFE, 0xFE, 0xE0, 0x5A, 0xFB, 0xFD, 0xFE, 0xFE, 0xE0, 0x5A, 0xFA, 0xFD]])) =
      some ([0xFE, 0xFE, 0xE0, 0x5A, 0xFA, 0xFD], 0) := by decide

/-- V-XA-19: an ACK that EXPECT does not select is recorded. -/
theorem test_ack_unselected : seen (exec (.ack 0xE0 0x5A []) (reading .xact 1 [])) = some (0xA0, 0x05, 0xE0, 0x5A, 1, 0) := by decide

/-- V-XA-16. -/
theorem test_nak : seen (exec (.nak 0xE0 0x5A []) (reading .xact 7 [])) = some (0x03, 0x02, 0, 0, 0, 0) := by decide

/-- V-XA-21: recorded while the XACT runs. -/
theorem test_other_recorded :
    seen (exec (.other 0xE0 0x5A 0x06 [0x01]) (reading .xact 1 [])) = some (0xC0, 0x05, 0xE0, 0x5A, 2, 0) := by decide

/-- V-XA-6 with the deadline gone. -/
theorem test_other_at_deadline :
    seen (exec (.other 0xE0 0x5A 0x06 [0x01]) { reading .xact 6 [] with dlcnt := 0 }) = some (0xC4, 0x06, 0xE0, 0x5A, 2, 0) := by decide

/-- V-RD-8. -/
theorem test_noopc : seen (exec (.noopc 0xE0 0x5A) (reading .rdf 0 [])) = some (0xD8, 0x02, 0xE0, 0x5A, 0, 0) := by decide

/-- V-RD-6. -/
theorem test_undersized_empty : seen (exec (.undersized none) (reading .rdf 0 [])) = some (0x06, 0x02, 0, 0, 0, 1) := by decide

/-- V-RD-7. -/
theorem test_undersized_one : seen (exec (.undersized (some 0xE0)) (reading .rdf 0 [])) = some (0x06, 0x02, 0, 0, 0, 1) := by decide

/-! ### Registers, commands while busy, reset -/

/-- V-CE-3: SEND written while an XACT runs. -/
theorem test_busy_command : seen (step (reading .xact 1 [.write ⟨0, 0⟩ 1])) = some (0x00, 0x11, 0, 0, 0, 0) := by decide

/-- V-CE-6: only OVF is cleared. -/
theorem test_status_w1c :
    seen (step { ready 1 [.write ⟨0, 2⟩ 0x08] with status := ⟨false, true, false, true, true⟩ }) = some (0, 0x12, 0, 0, 0, 0) := by decide

/-- V-CE-7: UXSEEN is read-only. -/
theorem test_status_uxseen :
    seen (step { ready 1 [.write ⟨0, 2⟩ 0x04] with status := ⟨false, true, true, false, false⟩ }) = some (0, 0x06, 0, 0, 0, 0) := by decide

/-- V-CE-11: a reset after three bytes. -/
theorem test_reset_while_sending : seen (step (sending [.reset])) = some (0, 0, 0, 0, 0, 0) ∧
    sent (step (sending [.reset])) = some [0xFE, 0xFE, 0x5A] := by decide

/-- The first instruction after reset: RDF, placed by `withFetchWord`, is accepted and waits. -/
theorem test_fetch_word : seen (step (State.reset.withFetchWord 8 2)) = some (0x00, 0x01, 0, 0, 0, 0) := by decide

/-- The configuration and the clock of programs P1 to P4, with a local time two hours ahead. -/
def config : SessionConfig := ⟨[("A", ⟨0x5A, 0x00, 0x94, 0x95, true⟩)], "A", none, none, 0xE0, 100, 50, 10⟩
def clock : Clock := ⟨⟨2024, 4, 13, 7, 5, some 9⟩, ⟨2024, 4, 13, 9, 5, some 9⟩⟩

/-- Program P2 (95_test_vectors.md), the session's side: RESULT 91, then RESULT 03. -/
theorem test_session_date_nak :
    sessionAdvance (sessionObserve .probing 0x91) = .settingDate ∧ sessionObserve .settingDate 0x03 = .dateFailed ∧
    sessionExit .dateFailed = some 3 ∧ transportUnavailableExit = 1 := by decide

/-- V-XA-1 as TRANSACT ends: RESULT is read, then the frame registers (R178). -/
theorem test_transact_reads :
    (hostRun 12 ⟨ready 1 (accepts 6 ++ [Stimulus.rx [0xFE, 0xFE, 0xE0, 0x5A, 0x03, 0x14, 0xFD]]), executeAndRead ++ [.rdFrame], 0, []⟩).reads =
      [0x91, 0xE0, 0x5A, 2, 0x03, 0x14] := by decide

/-- A reader that ends with NoData one tick before the deadline, in a block that spends time of its own or none; then that tick. -/
def lastTick (lags : Bool) : State :=
  nextState (nextState { reading .xact 1 [.quiet, .tick, .settle] with rtcnt := 0, dlcnt := 1, lags := lags })

/-- R206, R234: in the delay before the deadline check the tick takes `DLCNT` from 1 to 0, and the XACT ends with TIMEOUT; with no
delay the tick comes after the check, and the XACT goes on. -/
theorem test_tick_before_deadline_check :
    seen (.next (settle (settle (lastTick true)))) = some (0x05, 0x02, 0, 0, 0, 0) ∧
    seen (step (lastTick false)) = some (0x00, 0x01, 0, 0, 0, 0) := ⟨by decide, by decide⟩

/-- `WAIT` with `DONE = 0` stays (R72). -/
theorem test_wait_stays : (hostStep ⟨reading .xact 1 [], [.wait], 0, []⟩).program = [.wait] := by decide

/-- R165: the default is UTC; a model that is not supported is a configuration error, exit status 1 (R177). -/
theorem test_session_construction :
    (SessionInput.construct config clock).map (fun p => p.time.hour) = some 7 ∧
    (SessionInput.construct { config with clock := some .localTime } clock).map (fun p => p.time.hour) = some 9 ∧
    sessionStatus { config with model := "B" } clock true [] = (some 1, []) := by decide

/-- A session given a date that cannot be sent stays before it: the `RESULT` of the probe is no outcome of it (R174, log 20). -/
theorem test_session_refused :
    let p : SessionInput := ⟨⟨0x5A, 0x00, 0x94, 0x95, true⟩, none, ⟨2024, 100, 13, 7, 5, some 9⟩, 0xE0, 100, 50, 10⟩
    let x := sessionStep p ⟨.probing, ⟨idle, [], 0x91, []⟩⟩
    x.state = .settingDate ∧ sessionStep p x = x ∧ sessionResult p x.state = some 1 := by decide

/-! ### Witnesses: for each statement with hypotheses, a state and operands that meet them together -/

/-- The bytes of an ACK frame, and of a frequency report. -/
def ackBytes : List Byte := [0xFE, 0xFE, 0xE0, 0x5A, 0xFB, 0xFD]
def freqBytes : List Byte := [0xFE, 0xFE, 0xE0, 0x5A, 0x03, 0x00, 0x00, 0x10, 0x14, 0x00, 0xFD]

theorem witness_readerFresh (op : CurOp) (e : BitVec 3) (es : List Stimulus) : (reading op e es).readerFresh :=
  ⟨⟨rfl, rfl⟩, rfl, rfl, rfl⟩

theorem witness_StepRunsDecodedInstruction :
    ((ready 1 [.write ⟨0, 0⟩ 3]).inbox = .write ⟨0, 0⟩ 3 :: [] ∧ (Stimulus.write ⟨0, 0⟩ 3).image? = some (.cmd 3) ∧
      decode (.cmd 3) = .ok .xact) ∧
    ((ready 1 [.rx ackBytes]).inbox = .rx ackBytes :: [] ∧ (Stimulus.rx ackBytes).image? = some (.wire ackBytes) ∧
      decode (.wire ackBytes) = .ok (.ack 0xE0 0x5A [])) ∧
    ((ready 1 [.rx [0xFE]]).inbox = .rx [0xFE] :: [] ∧ decodeWire [0xFE] = .error .noPreamble) ∧
    ((ready 1 [.write ⟨0, 1⟩ 1]).inbox = .write ⟨0, 1⟩ 1 :: [] ∧ (Stimulus.write ⟨0, 1⟩ 1).image? = none) ∧
    (ready 1 []).inbox = [] :=
  ⟨⟨rfl, rfl, rfl⟩, ⟨rfl, rfl, rfl⟩, ⟨rfl, rfl⟩, ⟨rfl, rfl⟩, rfl⟩

theorem witness_ResetStateValues : (sending [.reset]).inbox = .reset :: [] := rfl

theorem witness_ResetAbandonsCommandAndKeepsTransport : (sending [.reset, .tick]).inbox = .reset :: [.tick] := rfl

/-- The invariant holds of a state in the middle of an XACT; the statements over `Inv` speak of it. -/
theorem reading_inv (es : List Stimulus) : (reading .xact 1 es).Inv where
  lmax_ge := show 10 ≤ 16 by decide
  sequencer := rfl
  due_place := rfl
  busy_not_done := fun _ => rfl
  tx_index := by intro h; cases h
  txidx_le := Nat.zero_le _
  rx_taken := fun _ => rfl
  blen_le := Nat.zero_le _
  hunting_empty := fun _ _ => rfl
  resLen_le := Nat.zero_le _
  rtcnt_le := fun _ => Nat.le_refl _
  dlcnt_le := fun _ => Nat.le_refl _
  cls_valid := rfl
  kind_busy := fun _ => rfl
  valid_kind := by intro h; cases h
  valid_uxseen := fun _ => rfl
  uxseen_xact := fun _ _ => rfl
  txBody_wf := rfl
  resBody_wf := rfl
  buf_wf := rfl
  buf_filled := rfl
  resBody_filled := by intro h; cases h

theorem witness_StepKeepsInvariant : (reading .xact 1 []).Inv ∧ step (reading .xact 1 []) = .next (reading .xact 1 []) :=
  ⟨reading_inv [], rfl⟩

theorem witness_OnlyFrameBytesAreTransmitted :
    (reading .xact 1 []).Inv ∧ step (reading .xact 1 []) = .next (reading .xact 1 []) := ⟨reading_inv [], rfl⟩

theorem witness_XactEndsOnlyInItsOutcomes :
    ((reading .xact 1 [.rx freqBytes]).Inv ∧ (reading .xact 1 [.rx freqBytes]).curop = .xact ∧
      ∃ t, step (reading .xact 1 [.rx freqBytes]) = .next t ∧ t.status.busy = false) ∧
    ((reading .xact 1 [.reset]).Inv ∧ ∃ t, step (reading .xact 1 [.reset]) = .next t ∧ t.status.busy = false) :=
  ⟨⟨reading_inv _, rfl, _, rfl, rfl⟩, ⟨reading_inv _, _, rfl, rfl⟩⟩

/-- One well-formed instruction of each row. -/
theorem witness_DecodeOfEncodeIsIdentity :
    [Instr.nop, .send, .rdf, .xact, .cmdReserved 3, .freqQuery 0x5A 0xE0, .freqReport 0xE0 0x5A [0xFE],
      .setDate 0x5A 0xE0 0xFF 0x94 0x99 0x99 0x99 0x99, .setTimeHM 0x5A 0xE0 0x00 0x95 0x23 0x59,
      .setTimeHMS 0x5A 0xE0 0x00 0x95 0x23 0x59 0x59, .ack 0xE0 0x5A [0xFE], .nak 0xE0 0x5A [], .other 0xFE 0x5A 0x1A [0x05],
      .noopc 0xFE 0xFE, .undersized (some 0xFE)].all Instr.wellFormed = true := by decide

theorem witness_DecodedFrameEncodesBack : decodeWire ackBytes = .ok (.ack 0xE0 0x5A []) := rfl

theorem witness_CommandCodeIsLowThreeBits :
    (0xFFFFFFFB : Word).extractLsb' 0 3 = (3 : Word).extractLsb' 0 3 := by decide

theorem witness_CodecRoundTrips : decodeWhole ackBytes = some ⟨0xE0, 0x5A, [0xFB]⟩ := by decide

theorem witness_ClassReadsOpcodeByteOnly :
    (⟨0xE0, 0x5A, [0xFB, 0x01]⟩ : Frame).body.head? = (⟨0x00, 0x00, [0xFB]⟩ : Frame).body.head? := by decide

theorem witness_NopChangesNothing :
    (0xFFFFFFF8 : Word).toNat % 8 = 0 ∧ (ready 1 []).status.busy = false ∧ (sending []).status.busy = true := by decide

theorem witness_OversizeTransmitRefused :
    ({ idle with txLen := 15 } : State).status.busy = false ∧
    ({ idle with txLen := 15 } : State).lmax - 2 < ({ idle with txLen := 15 } : State).txLen := by decide

theorem witness_BusyRefusesEveryCommand : (reading .xact 1 []).status.busy = true := rfl

theorem witness_XactAcceptance :
    let s := { ready 1 [] with txLen := 14 }
    s.status.busy = false ∧ s.txLen ≤ s.lmax - 2 ∧ s.inbox = [] := by decide

theorem witness_RdfAcceptance : (ready 1 []).status.busy = false ∧ (ready 1 []).rxq = [] ∧ (ready 1 []).inbox = [] := by decide

theorem witness_SendPutsFrameAndEndsSent :
    let s := ready 1 (accepts 6 ++ [Stimulus.tick])
    s.status.busy = false ∧ s.prompt ∧ s.txLen ≤ s.lmax - 2 ∧
      s.inbox = List.replicate (s.txLen + 5) Stimulus.txReady ++ [Stimulus.tick] :=
  ⟨rfl, ⟨rfl, rfl⟩, show 1 ≤ 14 by decide, ready_inbox _ _⟩

/-- All acceptances but the last and all the other kinds of stimuli that may come between. -/
def delays : List Stimulus := [.txReady, .tick, .rx ackBytes, .txReady, .quiet, .txReady, .lagTick, .txReady, .txReady, .tick]

theorem witness_SendToleratesEveryDelay :
    ((ready 1 (delays ++ Stimulus.txReady :: [Stimulus.reset])).status.busy = false ∧ idle.prompt ∧ idle.txLen ≤ idle.lmax - 2 ∧
      (∀ e ∈ delays, e.isTransport = true) ∧ delays.count .txReady = idle.txLen + 4 ∧
      (ready 1 (delays ++ Stimulus.txReady :: [Stimulus.reset])).inbox = delays ++ Stimulus.txReady :: [Stimulus.reset]) ∧
    ((sending []).opst = .tx ∧ (sending []).status.busy = true ∧ (sending []).inbox = [] ∧
      ∀ i : Nat, ((fun _ => .tick : Nat → Stimulus) i).isTransport = true ∧ (fun _ => .tick : Nat → Stimulus) i ≠ .txReady) :=
  ⟨⟨rfl, ⟨rfl, rfl⟩, by decide, by decide, by decide, ready_inbox _ _⟩, ⟨rfl, rfl, rfl, fun _ => ⟨rfl, fun h => by cases h⟩⟩⟩

/-- Noise as R103 admits it, and the largest body that fits. -/
def noise : List Byte := [0x00, 0xFE, 0xFD, 0x12]
def longBody : List Byte := [1, 2, 3, 4, 5, 6, 7, 8, 9, 10, 11, 12, 13, 0xFE]

/-- The bytes held whole with others behind them, and held up to the last byte of the frame. -/
theorem witness_RdfFindsFrameBehindNoise :
    idle.prompt ∧ noPreamblePair (noise ++ [0xFE]) = true ∧ (0xFE :: 0x5A :: longBody).all plain = true ∧ longBody.length + 2 ≤ idle.lmax ∧
    ({ idle with rxq := noise ++ encodeFrame 0xFE 0x5A longBody ++ [0xFE] } : State).rxq =
      noise ++ encodeFrame 0xFE 0x5A longBody ++ [0xFE] ∧
    (∀ q b : List Byte, q = (noise ++ encodeFrame 0xFE 0x5A longBody).dropLast → b = [0xFD, 0xFE] →
      q ++ b = noise ++ encodeFrame 0xFE 0x5A longBody ++ [0xFE] ∧ q.length < (noise ++ encodeFrame 0xFE 0x5A longBody).length ∧
      { ready 1 [.rx b] with rxq := q }.rxq = q ∧ { ready 1 [.rx b] with rxq := q }.inbox = .rx b :: [] ∧
      { ready 1 [.rx b] with rxq := q }.status.busy = false) := by
  refine ⟨⟨rfl, rfl⟩, by decide, by decide, by decide, rfl, ?_⟩
  rintro q b rfl rfl
  exact ⟨by decide, by decide, rfl, rfl, rfl⟩

theorem witness_LoneFEBeforeFrameShiftsIt :
    let z : List Byte := [0x12]
    let body : List Byte := [1, 2, 3, 4, 5, 6, 7, 8, 9, 10, 11, 12, 13]
    let s := ready 1 [Stimulus.rx (z ++ [0xFE] ++ encodeFrame 0xE0 0x5A body)]
    s.status.busy = false ∧ s.lags = false ∧ s.due = none ∧ s.rxq = [] ∧ noPreamblePair (z ++ [0xFE]) = true ∧ (0xE0 :: 0x5A :: body).all plain = true ∧
    body.length + 3 ≤ s.lmax ∧ s.inbox = Stimulus.rx (z ++ [0xFE] ++ encodeFrame 0xE0 0x5A body) :: [] := by decide

theorem witness_RdfTimesOutAfterExactlyRdtmoTicks :
    let s := ready 1 (silentCycles 11)
    s.status.busy = false ∧ s.lags = false ∧ s.due = none ∧ s.rxq = [] ∧ s.rdtmo.toNat < 11 ∧ s.inbox = silentCycles 11 := by decide

/-- An XACT that expects every class, with the bytes `held` in the transport and `bs` still to come. -/
def answered (held bs : List Byte) : State := { ready 7 (accepts 6 ++ [Stimulus.rx bs]) with rxq := held }

/-- DATA with the largest span that fits, ACK and NAK; the answer held whole, and held in part. -/
theorem witness_XactEndsOnTerminalFrame :
    (∀ held bs, (answered held bs).status.busy = false ∧ (answered held bs).prompt ∧ (answered held bs).txLen ≤ (answered held bs).lmax - 2 ∧
      (answered held bs).rxq = held ∧ (answered held bs).expect = 7 ∧
      (answered held bs).inbox = List.replicate ((answered held bs).txLen + 5) Stimulus.txReady ++ [Stimulus.rx bs]) ∧
    noPreamblePair (noise ++ [0xFE]) = true ∧
    (noise ++ [0xFE, 0xFE]) ++ [0xE0, 0x5A, 0xFB, 0xFD, 0x01] = noise ++ encodeFrame 0xE0 0x5A [0xFB] ++ [0x01] ∧
    (noise ++ [0xFE, 0xFE]).length < (noise ++ encodeFrame 0xE0 0x5A [0xFB]).length ∧
    (((0xE0 : Byte) :: 0x5A :: 0x03 :: List.replicate 13 0x99).all plain = true ∧
      (0x03 :: List.replicate 13 (0x99 : Byte)).length + 2 ≤ idle.lmax ∧
      terminal (classify ⟨0xE0, 0x5A, 0x03 :: List.replicate 13 0x99⟩) 7 = true ∧
      outcomeOf (classify ⟨0xE0, 0x5A, 0x03 :: List.replicate 13 0x99⟩) = some .data) ∧
    (((0xE0 : Byte) :: 0x5A :: [0xFB]).all plain = true ∧ terminal (classify ⟨0xE0, 0x5A, [0xFB]⟩) 7 = true ∧
      outcomeOf (classify ⟨0xE0, 0x5A, [0xFB]⟩) = some .ack) ∧
    (((0xE0 : Byte) :: 0x5A :: [0xFA]).all plain = true ∧ terminal (classify ⟨0xE0, 0x5A, [0xFA]⟩) 7 = true ∧
      outcomeOf (classify ⟨0xE0, 0x5A, [0xFA]⟩) = some .nak) :=
  ⟨fun _ _ => ⟨rfl, ⟨rfl, rfl⟩, show 1 ≤ 14 by decide, rfl, rfl, rfl⟩, by decide, by decide, by decide,
    ⟨rfl, by decide, rfl, rfl⟩, ⟨rfl, rfl, rfl⟩, ⟨rfl, rfl, rfl⟩⟩

/-- Ticks before, among and after the acceptances but the last. -/
def silentDelays : List Stimulus := [.tick, .txReady, .lagTick, .txReady, .txReady, .quiet, .tick, .txReady, .txReady, .tick]

theorem witness_XactOnSilentLineEndsWithinBound :
    (ready 1 (silentDelays ++ Stimulus.txReady :: silentCycles 111)).status.busy = false ∧ idle.prompt ∧ idle.txLen ≤ idle.lmax - 2 ∧
    idle.rxq = [] ∧ (∀ e ∈ silentDelays, e.isSilent = true) ∧ silentDelays.count .txReady = idle.txLen + 4 ∧
    idle.deadline.toNat + idle.rdtmo.toNat < 111 ∧
    (ready 1 (silentDelays ++ Stimulus.txReady :: silentCycles 111)).inbox = silentDelays ++ Stimulus.txReady :: silentCycles 111 :=
  ⟨rfl, ⟨rfl, rfl⟩, by decide, rfl, by decide, by decide, by decide, ready_inbox _ _⟩

theorem witness_BusyKeepsOperands :
    (reading .xact 1 [.write ⟨0, 3⟩ 7]).status.busy = true ∧
    (reading .xact 1 [.write ⟨0, 3⟩ 7]).inbox = .write ⟨0, 3⟩ 7 :: [] ∧ Stimulus.write ⟨0, 3⟩ 7 ≠ .reset ∧
    ∃ t, step (reading .xact 1 [.write ⟨0, 3⟩ 7]) = .next t := ⟨rfl, rfl, by decide, _, rfl⟩

theorem witness_HuntStepsLookForTwoPreambles :
    let s := { reading .rdf 1 [.rx [0xFE]] with rs := .hunt2 }
    (reading .rdf 1 []).rs = .hunt1 ∧ s.rs = .hunt2 ∧ s.reading ∧ s.rs ≠ .accum ∧ s.rxq = [] ∧ s.inbox = .rx [0xFE] :: [] := by
  decide

/-- The last free element of the buffer. -/
theorem witness_AccumStoresEveryByteButTerminator :
    let s := { reading .rdf 1 [.rx [0xFE]] with rs := .accum, blen := 15 }
    s.reading ∧ s.rs = .accum ∧ s.rxq = [] ∧ (0xFE : Byte) ≠ 0xFD ∧ s.blen < s.lmax ∧ s.inbox = .rx [0xFE] :: [] := by decide

/-- A frame, an undersized span, an overflow, and bytes that end nothing. -/
theorem witness_ReaderRefinesReadFrame :
    (reading .rdf 0 []).readerFresh ∧ idle.lags = false ∧ (reading .rdf 0 []).curop = .rdf ∧
    (reading .xact 0 []).readerFresh ∧ (reading .xact 0 []).curop = .xact ∧
    readFrame 16 ackBytes = .ended (.frame ⟨0xE0, 0x5A, [0xFB]⟩) false [] ∧
    readFrame 16 [0xFE, 0xFE, 0xFD] = .ended .malformed false [] ∧
    readFrame 16 ([0xFE, 0xFE] ++ List.replicate 17 0x11) = .ended .malformed true [] ∧
    readFrame 16 [0xFE, 0xFE, 0x11] = .pending .accum [0x11] :=
  ⟨⟨⟨rfl, rfl⟩, rfl, rfl, rfl⟩, rfl, rfl, ⟨⟨rfl, rfl⟩, rfl, rfl, rfl⟩, rfl, by decide, by decide, by decide, by decide⟩

theorem witness_NoiseLeavesNoTrace :
    ((reading .xact 1 [.rx noise]).readerFresh ∧ noise ≠ [] ∧ noPreamblePair noise = true ∧
      (reading .xact 1 [.rx noise]).inbox = .rx noise :: []) ∧
    ((reading .xact 1 []).readerFresh ∧ (reading .xact 1 []).status.busy = true ∧ (reading .xact 1 []).rdtmo ≠ 0 ∧
      (reading .xact 1 []).inbox = [] ∧
      ∀ i : Nat, ¬((fun _ => 0x00 : Nat → Byte) i = 0xFE ∧ (fun _ => 0x00 : Nat → Byte) (i + 1) = 0xFE)) :=
  ⟨⟨⟨⟨rfl, rfl⟩, rfl, rfl, rfl⟩, by decide, by decide, rfl⟩,
    ⟨⟨⟨rfl, rfl⟩, rfl, rfl, rfl⟩, rfl, by decide, rfl, fun _ => show ¬((0x00 : Byte) = 0xFE ∧ (0x00 : Byte) = 0xFE) by decide⟩⟩

theorem witness_NoDataEndsRdfWithTimeout :
    let s := { reading .rdf 1 [.quiet] with rtcnt := 0 }
    s.opst = .rd ∧ s.lags = false ∧ s.due = none ∧ s.curop = .rdf ∧ s.rtcnt = 0 ∧ s.rxq = [] ∧ s.inbox = .quiet :: [] := by decide

/-- An XACT whose read has used up its timeout, with `DLCNT = d` and `UXSEEN = ux`. -/
def waited (d : Word) (ux : Bool) : State :=
  { reading .xact 1 [.quiet] with rtcnt := 0, dlcnt := d, status := ⟨true, false, ux, false, false⟩ }

/-- Before the deadline, at it with a recorded frame, at it with none. -/
theorem witness_NoDataWithinXactChecksDeadline :
    (∀ d ux, (waited d ux).opst = .rd ∧ (waited d ux).prompt ∧ (waited d ux).curop = .xact ∧ (waited d ux).rtcnt = 0 ∧ (waited d ux).rxq = [] ∧
      (waited d ux).inbox = .quiet :: []) ∧
    (waited 1 false).dlcnt ≠ 0 ∧ ((waited 0 true).dlcnt = 0 ∧ (waited 0 true).status.uxseen = true) ∧
    ((waited 0 false).dlcnt = 0 ∧ (waited 0 false).status.uxseen = false) :=
  ⟨fun _ _ => ⟨rfl, ⟨rfl, rfl⟩, rfl, rfl, rfl, rfl⟩, by decide, ⟨rfl, rfl⟩, ⟨rfl, rfl⟩⟩

/-- A full buffer, in an RDF and in an XACT with `DLCNT = d` and `UXSEEN = ux`. -/
def full (op : CurOp) (d : Word) (ux : Bool) : State :=
  { reading op 1 [.rx [0xFE]] with rs := .accum, blen := 16, dlcnt := d, status := ⟨true, false, ux, false, false⟩ }

theorem witness_OverflowEndsRdfMalformed :
    (∀ op d ux, (full op d ux).opst = .rd ∧ (full op d ux).prompt ∧ (full op d ux).rs = .accum ∧ (full op d ux).blen = (full op d ux).lmax ∧
      (full op d ux).rxq = [] ∧ (0xFE : Byte) ≠ 0xFD ∧ (full op d ux).inbox = .rx [0xFE] :: [] ∧ (full op d ux).curop = op ∧
      (full op d ux).dlcnt = d ∧ (full op d ux).status.uxseen = ux) ∧ (1 : Word) ≠ 0 :=
  ⟨fun _ _ _ => ⟨rfl, ⟨rfl, rfl⟩, rfl, rfl, rfl, by decide, rfl, rfl, rfl, rfl⟩, by decide⟩

theorem witness_FrameWaitsWhileNotReading : isFrame (.ack 0xE0 0x5A []) = true ∧ ¬ (sending []).reading := by decide

theorem witness_FreqFramesEndProbeWithData :
    (reading .xact 1 []).readerFresh ∧ idle.lags = false ∧ (reading .xact 1 []).curop = .xact ∧ (reading .xact 1 []).expect.getLsbD 0 = true ∧
    10 ≤ (reading .xact 1 []).lmax ∧ (Instr.freqQuery 0x5A 0xE0).wellFormed = true ∧
    (Instr.freqReport 0xE0 0x5A (List.replicate 13 0x99)).wellFormed = true ∧
    (List.replicate 13 (0x99 : Byte)).length + 3 ≤ (reading .xact 1 []).lmax :=
  ⟨⟨⟨rfl, rfl⟩, rfl, rfl, rfl⟩, rfl, rfl, rfl, by decide, by decide, by decide, by decide⟩

theorem witness_AckEndsWait :
    (reading .xact 6 []).readerFresh ∧ idle.lags = false ∧ (reading .xact 6 []).curop = .xact ∧ (reading .xact 6 []).expect.getLsbD 1 = true ∧
    (Instr.ack 0xE0 0x5A [0x01]).wellFormed = true ∧ [(0x01 : Byte)].length + 3 ≤ (reading .xact 6 []).lmax :=
  ⟨⟨⟨rfl, rfl⟩, rfl, rfl, rfl⟩, rfl, rfl, rfl, by decide, by decide⟩

theorem witness_NakEndsWait :
    (reading .xact 6 []).readerFresh ∧ idle.lags = false ∧ (reading .xact 6 []).curop = .xact ∧ (reading .xact 6 []).expect.getLsbD 2 = true ∧
    (Instr.nak 0xE0 0x5A [0x01]).wellFormed = true ∧ [(0x01 : Byte)].length + 3 ≤ (reading .xact 6 []).lmax :=
  ⟨⟨⟨rfl, rfl⟩, rfl, rfl, rfl⟩, rfl, rfl, rfl, by decide, by decide⟩

/-- Before the deadline and at it. -/
theorem witness_OtherFramesAreRecorded :
    (reading .xact 6 []).readerFresh ∧ { reading .xact 6 [] with dlcnt := 0 }.readerFresh ∧ idle.lags = false ∧ (reading .xact 6 []).curop = .xact ∧
    (reading .xact 6 []).dlcnt ≠ 0 ∧ 10 ≤ (reading .xact 6 []).lmax ∧ 8 + 2 ≤ (reading .xact 6 []).lmax ∧
    (Instr.setDate 0x5A 0xE0 0x00 0x94 0x20 0x24 0x04 0x13).wellFormed = true ∧
    (Instr.setTimeHM 0x5A 0xE0 0x00 0x95 0x23 0x59).wellFormed = true ∧
    (Instr.setTimeHMS 0x5A 0xE0 0x00 0x95 0x07 0x05 0x09).wellFormed = true ∧ (Instr.other 0xE0 0x5A 0x06 [0x01]).wellFormed = true :=
  ⟨⟨⟨rfl, rfl⟩, rfl, rfl, rfl⟩, ⟨⟨rfl, rfl⟩, rfl, rfl, rfl⟩, rfl, rfl, by decide, by decide, by decide, by decide, by decide, by decide, by decide⟩

theorem witness_NoopcFrameIsRecorded :
    (reading .xact 1 []).readerFresh ∧ idle.lags = false ∧ (reading .xact 1 []).curop = .xact ∧ 10 ≤ (reading .xact 1 []).lmax ∧
    (Instr.noopc 0xE0 0x5A).wellFormed = true := ⟨⟨⟨rfl, rfl⟩, rfl, rfl, rfl⟩, rfl, rfl, by decide, by decide⟩

/-- A reader at the start of an invocation, with `DLCNT = d`, `UXSEEN = ux` and `MALCNT = n`. -/
def fresh (op : CurOp) (d : Word) (ux : Bool) (n : Byte) : State :=
  { reading op 1 [] with dlcnt := d, status := ⟨true, false, ux, false, false⟩, malcnt := n }

/-- `MALCNT` below and at its limit, before the deadline and at it. -/
theorem witness_UndersizedSpanIsCountedOnly :
    (∀ op d ux n, (fresh op d ux n).readerFresh ∧ (fresh op d ux n).lags = false ∧ (fresh op d ux n).curop = op ∧ (fresh op d ux n).dlcnt = d ∧
      (fresh op d ux n).status.uxseen = ux ∧ (fresh op d ux n).malcnt = n) ∧
    10 ≤ idle.lmax ∧ (Instr.undersized (some 0xFE)).wellFormed = true ∧ (Instr.undersized none).wellFormed = true ∧
    (fresh .rdf 0 false 255).malcnt = 255 ∧ (fresh .xact 1 false 254).malcnt ≠ 255 ∧ (fresh .xact 1 false 254).dlcnt ≠ 0 :=
  ⟨fun _ _ _ _ => ⟨⟨⟨rfl, rfl⟩, rfl, rfl, rfl⟩, rfl, rfl, rfl, rfl, rfl⟩, by decide, by decide, by decide, rfl, by decide, by decide⟩

/-- `EXPECT` 1 for ACK and NAK, 6 for the frequency frames, before the deadline and at it. -/
theorem witness_UnselectedAckIsRecorded :
    (∀ d e, { fresh .xact d false 0 with expect := e }.readerFresh ∧ idle.lags = false ∧ { fresh .xact d false 0 with expect := e }.curop = .xact ∧
      { fresh .xact d false 0 with expect := e }.dlcnt = d ∧ { fresh .xact d false 0 with expect := e }.expect = e) ∧
    (1 : BitVec 3).getLsbD 1 = false ∧ (1 : BitVec 3).getLsbD 2 = false ∧ (6 : BitVec 3).getLsbD 0 = false ∧
    (Instr.ack 0xE0 0x5A [0x01]).wellFormed = true ∧ (Instr.nak 0xE0 0x5A []).wellFormed = true ∧
    (Instr.freqQuery 0x5A 0xE0).wellFormed = true ∧ (Instr.freqReport 0xE0 0x5A (List.replicate 13 0x99)).wellFormed = true ∧
    (0x03 :: List.replicate 13 (0x99 : Byte)).length + 2 ≤ idle.lmax :=
  ⟨fun _ _ => ⟨⟨⟨rfl, rfl⟩, rfl, rfl, rfl⟩, rfl, rfl, rfl, rfl⟩, rfl, rfl, rfl, by decide, by decide, by decide, by decide, by decide⟩

theorem witness_AddressesDoNotMatter :
    10 ≤ (reading .xact 1 []).lmax ∧ (reading .xact 1 []).readerFresh ∧ idle.lags = false ∧
    ((reading .xact 1 []).curop = .rdf ∨ (reading .xact 1 []).curop = .xact) ∧
    ((0xE0 : Byte) :: 0x5A :: 0xFE :: 0x00 :: [0xFB]).all plain = true :=
  ⟨by decide, ⟨⟨rfl, rfl⟩, rfl, rfl, rfl⟩, rfl, .inr rfl, by decide⟩

theorem witness_BusyIgnoresRegisterWrites :
    (reading .xact 1 [.write ⟨0, 5⟩ 0]).status.busy = true ∧ (⟨0, 5⟩ : RegNum) ≠ ⟨0, 0⟩ ∧
    (reading .xact 1 [.write ⟨0, 5⟩ 0]).inbox = .write ⟨0, 5⟩ 0 :: [] := by decide

theorem witness_HostReadChangesNothing : (ready 1 [.read ⟨2, 0⟩]).inbox = .read ⟨2, 0⟩ :: [] := rfl

/-- The last element of each body buffer, the first reserved number above it, the first reserved bank. -/
theorem witness_RegisterReadValues :
    let s := { idle with txBody := [(13, 0x77)], result := ⟨.frame, some .other, true⟩, resLen := 14, resBody := [(13, 0x66)] }
    0x0E ≤ 0x0E ∧ 3 ≤ 3 ∧ 13 < s.lmax - 2 ∧ s.txBody.read? 13 = some 0x77 ∧ s.result.valid = true ∧ 13 < s.resLen ∧
    s.resBody.read? 13 = some 0x66 ∧ s.lmax - 2 ≤ 14 := by decide

/-- A write of ones to any register, and the numbers at the edges of the ignored ranges. -/
theorem witness_IdleRegisterWrites :
    (∀ n : RegNum, (ready 1 [.write n 0xFFFFFFFF]).status.busy = false ∧
      (ready 1 [.write n 0xFFFFFFFF]).inbox = .write n 0xFFFFFFFF :: []) ∧
    idle.lmax - 2 ≤ 255 ∧ 9 ≤ (⟨0, 9⟩ : RegNum).index ∧ idle.lmax - 2 ≤ (⟨1, 14⟩ : RegNum).index ∧ 2 ≤ (⟨2, 0⟩ : RegNum).bank :=
  ⟨fun _ => ⟨rfl, rfl⟩, by decide, by decide, by decide, by decide⟩

theorem witness_TxBodyWriteStoresOneByte :
    (ready 1 [.write ⟨1, 13⟩ 0x1FF]).status.busy = false ∧ 13 < (ready 1 []).lmax - 2 ∧
    (ready 1 [.write ⟨1, 13⟩ 0x1FF]).inbox = .write ⟨1, 13⟩ 0x1FF :: [] ∧ (ready 1 []).txBody.wf = true := by decide

theorem witness_StatusWriteOneToClear :
    (ready 1 [.write ⟨0, 2⟩ 0x1A]).status.busy = false ∧ (ready 1 [.write ⟨0, 2⟩ 0x1A]).inbox = .write ⟨0, 2⟩ 0x1A :: [] := by decide

theorem witness_IrqFollowsDoneAndEnable :
    (ready 1 [.write ⟨0, 2⟩ 2]).status.busy = false ∧ (ready 1 [.write ⟨0, 2⟩ 2]).inbox = .write ⟨0, 2⟩ 2 :: [] ∧
    (2 : Word).getLsbD 1 = true ∧ ∃ t, step (ready 1 [.write ⟨0, 2⟩ 2]) = .next t := ⟨rfl, rfl, by decide, _, rfl⟩

/-- A read with time left, one that has run out with a byte held and with none, no read, and a read that has returned. -/
theorem witness_TickDrivesTheTwoTimers :
    let out := fun op => { reading op 1 [.tick] with rtcnt := 0 }
    ((reading .xact 1 [.tick]).inbox = .tick :: [] ∧ (reading .xact 1 [.tick]).reading ∧ (reading .xact 1 [.tick]).rtcnt ≠ 0) ∧
    ((sending [.tick]).inbox = .tick :: [] ∧ ¬ (sending [.tick]).reading ∧ ¬ { out .xact with due := some .check }.reading) ∧
    (∀ op, (out op).inbox = .tick :: [] ∧ (out op).opst = .rd ∧ (out op).prompt ∧ (out op).rtcnt = 0 ∧ (out op).rxq = [] ∧
      (out op).curop = op ∧ { out op with rxq := [0x00] }.rxq ≠ []) ∧
    (out .xact).dlcnt ≠ 0 ∧ { out .xact with dlcnt := 0 }.dlcnt = 0 ∧ (out .xact).status.uxseen = false ∧
    { out .xact with status := ⟨true, false, true, false, false⟩ }.status.uxseen = true :=
  ⟨⟨rfl, ⟨rfl, rfl⟩, by decide⟩, ⟨rfl, by decide, by decide⟩,
    fun _ => ⟨rfl, rfl, ⟨rfl, rfl⟩, rfl, rfl, rfl, List.cons_ne_nil _ _⟩, by decide, rfl, rfl, rfl⟩

/-- An XACT of a block that spends time of its own, its reader at the start of an invocation. -/
def lagging (es : List Stimulus) : State := { reading .xact 1 es with lags := true }

/-- `lagging` with the step `a` due. -/
def owing (a : Due) (d : Word) (ux : Bool) : State :=
  { lagging [.settle] with due := some a, dlcnt := d, status := ⟨true, false, ux, false, false⟩ }

theorem witness_LagTickSparesReadTimeout :
    ((reading .xact 1 [.lagTick]).inbox = .lagTick :: [] ∧ (reading .xact 1 [.lagTick]).rtcnt = (reading .xact 1 [.lagTick]).rdtmo ∧
      ¬ (owing .check 1 false).reading) ∧
    ((lagging []).lags = true ∧ (lagging []).readerFresh ∧ (Instr.ack 0xE0 0x5A []).wellFormed = true ∧
      encode (.ack 0xE0 0x5A []) = .wire (encodeFrame 0xE0 0x5A [0xFB]) ∧ [(0xFB : Byte)].length + 2 ≤ idle.lmax ∧
      (Instr.undersized none).wellFormed = true) ∧
    (∀ es, { lagging es with rtcnt := 0 }.lags = true ∧ { lagging es with rtcnt := 0 }.reading ∧
      { lagging es with rtcnt := 0 }.rtcnt = 0 ∧ { lagging es with rtcnt := 0 }.rxq = [] ∧ { lagging es with rtcnt := 0 }.inbox = es) ∧
    (∀ a d ux, (owing a d ux).inbox = .settle :: [] ∧ (owing a d ux).due = some a ∧ (owing a d ux).rxq = [] ∧
      (owing a d ux).dlcnt = d ∧ (owing a d ux).status.uxseen = ux ∧ (owing a d ux).lags = true ∧ (owing a d ux).curop = .xact ∧
      { owing a d ux with curop := .rdf }.curop = .rdf ∧ (owing a d ux).expect = 1) ∧
    (terminal (classify ⟨0xE0, 0x5A, [0x03]⟩) 1 = true ∧ outcomeOf (classify ⟨0xE0, 0x5A, [0x03]⟩) = some .data ∧
      terminal (classify ⟨0xE0, 0x5A, [0xFB]⟩) 1 = false) ∧
    (reading .xact 1 []).prompt ∧ { lagging [.settle] with due := none }.inbox = .settle :: [] :=
  ⟨⟨rfl, rfl, by decide⟩, ⟨rfl, ⟨⟨rfl, rfl⟩, rfl, rfl, rfl⟩, by decide, rfl, by decide, by decide⟩,
    fun _ => ⟨rfl, ⟨rfl, rfl⟩, rfl, rfl, rfl⟩, fun _ _ _ => ⟨rfl, rfl, rfl, rfl, rfl, rfl, rfl, rfl, rfl⟩,
    ⟨rfl, rfl, rfl⟩, ⟨rfl, rfl⟩, rfl⟩

theorem witness_BcdDigits : 99 ≤ 99 ∧ bcd 99 = 0x99 := by decide

/-- The session of programs P1 to P4. -/
def session : SessionInput := ⟨⟨0x5A, 0x00, 0x94, 0x95, true⟩, none, clock.utc, 0xE0, 100, 50, 10⟩

theorem witness_SessionRequestsAreTableFrames :
    (dateRequest session).isSome = true ∧ (timeRequest session).isSome = true ∧ session.profile.hasSeconds = true ∧
    (timeRequest { session with profile := ⟨0x5A, 0x00, 0x94, 0x95, false⟩ }).isSome = true := by decide

/-- Constructed, and not: an unsupported model, a month above 99, a missing second. -/
theorem witness_SessionSendsAndEndsByOutcome :
    SessionInput.construct config clock = some session ∧
    SessionInput.construct { config with model := "B" } clock = none ∧
    SessionInput.construct config { clock with utc := ⟨2024, 100, 13, 7, 5, some 9⟩ } = none ∧
    SessionInput.construct config { clock with utc := ⟨2024, 4, 13, 7, 5, none⟩ } = none := by decide

theorem witness_SessionPhaseLoadsTheRequest :
    (idle.status.busy = false ∧ (probeRequest session).body.length ≤ idle.lmax - 2 ∧ (probeRequest session).body.length < 2 ^ 32) ∧
    (∀ k, k = .data ∨ k = .unexpected →
      let s := { idle with result := ⟨k, some .freq, true⟩, resLen := 1, resBody := [(0, 0x03)] }
      s.result.kind = k ∧ s.result.valid = true ∧ s.resLen ≤ s.lmax - 2 ∧ s.resLen < 2 ^ 32 ∧
      Memory.filled s.resBody s.resLen = true) ∧
    (idle.result.kind ≠ .data ∧ idle.result.kind ≠ .unexpected) :=
  ⟨⟨rfl, by decide, show 1 < 2 ^ 32 by norm_num⟩, fun _ _ => ⟨rfl, rfl, show 1 ≤ 14 by decide, show 1 < 2 ^ 32 by norm_num, rfl⟩,
    by decide, by decide⟩

end Sys2Proof.Tests
end

section
/-! Which stimulus brings an instruction (`fetch`), and what `step` does in each case. -/

namespace Sys2Proof.Machine

/-! ### What a stimulus brings -/

theorem fetch_eq_some {e : Stimulus} {im : Image} {i : Instr} (himage : e.image? = some im) (hdecode : decode im = .ok i) :
    fetch e = some i := by
  simp [fetch, himage, hdecode, Except.toOption]

theorem fetch_eq_none_of_decode_error {e : Stimulus} {im : Image} {err : DecodeError} (himage : e.image? = some im)
    (hdecode : decode im = .error err) : fetch e = none := by
  simp [fetch, himage, hdecode, Except.toOption]

theorem fetch_eq_none_of_no_image {e : Stimulus} (himage : e.image? = none) : fetch e = none := by
  simp [fetch, himage]

/-! ### One step, by what the next stimulus brings -/

theorem step_of_inbox_nil {s : State} (hinbox : s.inbox = []) : step s = .next s := by
  simp [step, hinbox]

theorem step_of_fetch_some {s : State} {e : Stimulus} {es : List Stimulus} {i : Instr} (hinbox : s.inbox = e :: es)
    (hfetch : fetch e = some i) : step s = exec i { s with inbox := es } := by
  simp [step, hinbox, hfetch]

theorem step_of_fetch_none {s : State} {e : Stimulus} {es : List Stimulus} (hinbox : s.inbox = e :: es)
    (hfetch : fetch e = none) : step s = .next (deliver e { s with inbox := es }) := by
  simp [step, hinbox, hfetch]

/-- Settles O1: the four conjuncts are the branches of `step`, an image deciding by its decoding between the first two. -/
theorem stepRunsDecodedInstruction : Obligations.StepRunsDecodedInstruction := by
  refine ⟨?decodes, ?rawBytes, ?noImage, ?noStimulus⟩
  case decodes =>
    intro s e es im i hinbox himage hdecode
    exact step_of_fetch_some hinbox (fetch_eq_some himage hdecode)
  case rawBytes =>
    intro s bytes es err hinbox hdecode
    have hfetch : fetch (.rx bytes) = none := fetch_eq_none_of_decode_error (im := .wire bytes) rfl hdecode
    exact step_of_fetch_none hinbox hfetch
  case noImage =>
    intro s e es hinbox himage
    exact step_of_fetch_none hinbox (fetch_eq_none_of_no_image himage)
  case noStimulus => exact fun s hinbox => step_of_inbox_nil hinbox

end Sys2Proof.Machine
end

section
/-! What `exec` and `step` can do, said once, and which parts of the state no step changes while a command runs. -/

namespace Sys2Proof.Machine

/-! ### What an instruction and a step can do -/

/-- The effect of an instruction: a refusal, an accepted command, or bytes that arrive. -/
theorem exec_cases {i : Instr} {s t : State} (h : exec i s = .next t) :
    (s.status.busy = false ∧ t = s) ∨ t = cmdError s ∨
    (s.sendable = true ∧ t = runCommand (acceptSend s)) ∨
    (s.status.busy = false ∧ t = runCommand (acceptRdf s)) ∨
    (s.sendable = true ∧ t = runCommand (acceptXact s)) ∨ t = arrive i.wireBytes s := by
  cases i with
  | nop =>
    injection h with h
    cases hb : s.status.busy <;> simp_all
  | send =>
    injection h with h
    cases hs : s.sendable <;> simp_all
  | rdf =>
    injection h with h
    cases hb : s.status.busy <;> simp_all
  | xact =>
    injection h with h
    cases hs : s.sendable <;> simp_all
  | cmdReserved lo =>
    injection h with h
    exact .inr (.inl h.symm)
  | _ =>
    injection h with h
    exact .inr (.inr (.inr (.inr (.inr h.symm))))

/-- A step does nothing, executes the instruction its stimulus brings, or lets the stimulus take effect. -/
theorem step_cases {s t : State} (h : step s = .next t) :
    (s.inbox = [] ∧ t = s) ∨
    ∃ e es, s.inbox = e :: es ∧
      ((∃ i, fetch e = some i ∧ exec i { s with inbox := es } = .next t) ∨ t = deliver e { s with inbox := es }) := by
  cases hin : s.inbox with
  | nil =>
    rw [step_of_inbox_nil hin] at h
    injection h with h
    exact .inl ⟨rfl, h.symm⟩
  | cons e es =>
    refine .inr ⟨e, es, rfl, ?_⟩
    cases hf : fetch e with
    | some i =>
      rw [step_of_fetch_some hin hf] at h
      exact .inl ⟨i, rfl, h⟩
    | none =>
      rw [step_of_fetch_none hin hf] at h
      injection h with h
      exact .inr h.symm

theorem sendable_iff (s : State) : s.sendable = true ↔ s.status.busy = false ∧ s.txLen ≤ s.bmax := by
  simp [State.sendable]

theorem sendable_of_busy {s : State} (hbusy : s.status.busy = true) : s.sendable = false := by
  simp [State.sendable, hbusy]

/-- While a command runs an instruction is a refused command or bytes that arrive. -/
theorem exec_cases_of_busy {i : Instr} {s t : State} (hbusy : s.status.busy = true) (h : exec i s = .next t) :
    t = cmdError s ∨ t = arrive i.wireBytes s := by
  have hsend := sendable_of_busy hbusy
  have hcases := exec_cases h
  simpa [hbusy, hsend] using hcases

/-! ### The transmit side -/

/-- The byte `b` is put on the transmit stream (R87). -/
def putByte (b : Byte) (s : State) : State := { s with tx := s.tx ++ [b], txidx := s.txidx + 1 }

theorem length_txFrame (s : State) : s.txFrame.length = s.txLen + 5 := by
  simp [State.txFrame, State.txBodyBytes, encodeFrame]

/-- An accepted byte (R41, R87): nothing when none is offered, else it is put, and after the last one the command goes on. -/
theorem txAccept_cases (s : State) :
    txAccept s = s ∨
    ∃ b, s.putting ∧ s.txidx < s.txLen + 5 ∧
      ((s.txidx + 1 = s.txLen + 5 ∧ txAccept s = leaveTx (putByte b s)) ∨
       (s.txidx + 1 ≠ s.txLen + 5 ∧ txAccept s = putByte b s)) := by
  cases hdata : s.txData with
  | none => exact .inl (by simp [txAccept, hdata])
  | some b =>
    have hput : s.putting ∧ s.txFrame[s.txidx]? = some b := by simpa [State.txData] using hdata
    obtain ⟨hlt, -⟩ := List.getElem?_eq_some_iff.1 hput.2
    rw [length_txFrame] at hlt
    have haccept : txAccept s = if s.txidx + 1 = s.txLen + 5 then leaveTx (putByte b s) else putByte b s := by
      simp only [txAccept, hdata, length_txFrame, putByte]
    refine .inr ⟨b, hput.1, hlt, ?_⟩
    by_cases hlast : s.txidx + 1 = s.txLen + 5
    · exact .inl ⟨hlast, by rw [haccept, if_pos hlast]⟩
    · exact .inr ⟨hlast, by rw [haccept, if_neg hlast]⟩

/-- After the last byte (R84, R129) SEND ends, now or later, and XACT starts to read. -/
theorem leaveTx_cases (s : State) :
    (s.curop = .send ∧ leaveTx s = orLater .sent raiseSent s) ∨
    (s.curop = .xact ∧ leaveTx s = takeHeld (startInvocation s)) ∨
    ((s.curop = .none ∨ s.curop = .rdf) ∧ leaveTx s = s) := by
  cases hc : s.curop <;> simp [leaveTx, hc]

/-! ### The operands of a running command -/

/-- The operand registers, the interrupt enable, the build and the count of commands are the same (R13(b), R53). -/
def OperandsKept (s t : State) : Prop :=
  t.lmax = s.lmax ∧ t.ie = s.ie ∧ t.expect = s.expect ∧ t.rdtmo = s.rdtmo ∧ t.deadline = s.deadline ∧
  t.txTo = s.txTo ∧ t.txFrom = s.txFrom ∧ t.txLen = s.txLen ∧ t.txBody = s.txBody ∧ t.cmdCount = s.cmdCount

theorem OperandsKept.refl (s : State) : OperandsKept s s := by simp [OperandsKept]

theorem OperandsKept.trans {s t u : State} (hst : OperandsKept s t) (htu : OperandsKept t u) : OperandsKept s u := by
  simp only [OperandsKept] at *
  simp_all

theorem ReceiveFrame.operandsKept {s t : State} (h : ReceiveFrame s t) : OperandsKept s t := by
  simp only [ReceiveFrame] at h
  simp only [OperandsKept]
  simp_all

theorem takeHeld_operandsKept (s : State) : OperandsKept s (takeHeld s) := (takeBytes_receiveFrame _ s).operandsKept

theorem quietCycle_operandsKept (s : State) : OperandsKept s (quietCycle s) := by
  unfold quietCycle
  split
  · exact (invocationReturns_receiveFrame .timeout s).operandsKept
  · exact .refl s

theorem tickDeadline_operandsKept (s : State) : OperandsKept s (tickDeadline s) := by simp [OperandsKept]

theorem tickAll_operandsKept (s : State) : OperandsKept s (tickAll s) :=
  (quietCycle_operandsKept s).trans (by simp [tickAll, OperandsKept])

theorem tickLag_operandsKept (s : State) : OperandsKept s (tickLag s) := by
  unfold tickLag
  split
  · exact tickAll_operandsKept s
  · exact tickDeadline_operandsKept s

theorem leaveTx_operandsKept (s : State) : OperandsKept s (leaveTx s) := by
  rcases leaveTx_cases s with ⟨-, h⟩ | ⟨-, h⟩ | ⟨-, h⟩ <;> rw [h]
  · exact (orLater_receiveFrame _ _ s (raise_receiveFrame _ _ s)).operandsKept
  · exact .trans (by simp [OperandsKept]) (takeHeld_operandsKept _)
  · exact .refl s

theorem txAccept_operandsKept (s : State) : OperandsKept s (txAccept s) := by
  rcases txAccept_cases s with h | ⟨b, -, -, ⟨-, h⟩ | ⟨-, h⟩⟩ <;> rw [h]
  · exact .refl s
  · exact .trans (by simp [OperandsKept, putByte]) (leaveTx_operandsKept _)
  · simp [OperandsKept, putByte]

theorem perform_operandsKept (a : Due) (s : State) : OperandsKept s (perform a s) := by
  cases a with
  | returned r => exact (invocationEnd_receiveFrame r s).operandsKept
  | check => exact (deadlineCheck_receiveFrame s).operandsKept
  | sent => exact (raise_receiveFrame _ _ s).operandsKept

theorem settle_operandsKept (s : State) : OperandsKept s (settle s) := by
  cases hdue : s.due with
  | none => rw [settle_none s hdue]; exact .refl s
  | some a =>
    rw [settle_some a s hdue]
    have hclear : OperandsKept s { s with due := none } := by simp [OperandsKept]
    exact (hclear.trans (perform_operandsKept a _)).trans (takeHeld_operandsKept _)

theorem hostWrite_of_busy {s : State} (n : RegNum) (d : Word) (hbusy : s.status.busy = true) : hostWrite n d s = s := by
  simp [hostWrite, hbusy]

/-- No stimulus but the reset input changes an operand of a running command. -/
theorem deliver_operandsKept {e : Stimulus} {s : State} (hbusy : s.status.busy = true) (hreset : e ≠ .reset) :
    OperandsKept s (deliver e s) := by
  cases e with
  | write n d => rw [deliver, hostWrite_of_busy n d hbusy]; exact .refl s
  | read n => simp [deliver, OperandsKept]
  | rx bytes => exact (arrive_receiveFrame bytes s).operandsKept
  | quiet => exact quietCycle_operandsKept s
  | txReady => exact txAccept_operandsKept s
  | tick => exact tickAll_operandsKept s
  | lagTick => exact tickLag_operandsKept s
  | lags on => simp [deliver, OperandsKept]
  | settle => exact settle_operandsKept s
  | reset => exact absurd rfl hreset

/-- Settles O30: while a command runs an instruction is refused or arrives as bytes, and every other stimulus keeps the operands. -/
theorem busyKeepsOperands : Obligations.BusyKeepsOperands := by
  intro s t e es hbusy hinbox hreset hstep
  show OperandsKept s t
  have htaken : OperandsKept s { s with inbox := es } := by simp [OperandsKept]
  rcases step_cases hstep with ⟨hnil, -⟩ | ⟨e', es', hcons, hcase⟩
  · simp [hnil] at hinbox
  obtain ⟨rfl, rfl⟩ : e' = e ∧ es' = es := by simpa [hcons] using hinbox
  rcases hcase with ⟨i, -, hexec⟩ | rfl
  · rcases exec_cases_of_busy (s := { s with inbox := es' }) hbusy hexec with rfl | rfl
    · simp [OperandsKept]
    · exact htaken.trans (arrive_receiveFrame _ _).operandsKept
  · exact htaken.trans (deliver_operandsKept hbusy hreset)

end Sys2Proof.Machine
end

section
/-! The invariant of the machine: what each operation needs to keep it, from the reader's bytes up to a step. -/

namespace Sys2Proof.Machine

/-! ### Written elements of a buffer, spans and timers -/

theorem Memory.filled_iff (m : Memory) (n : Nat) : m.filled n = true ↔ ∀ i < n, (m.read? i).isSome = true := by
  induction n with
  | zero => simp [Memory.filled]
  | succ n ih => simp only [Memory.filled, Bool.and_eq_true, ih, Nat.forall_lt_succ_right, and_comm]

/-- A byte written behind the written elements extends them (R99). -/
theorem Memory.filled_write_end {m : Memory} {n : Nat} (v : Byte) (h : m.filled n = true) :
    (m.write n v).filled (n + 1) = true := by
  rw [Memory.filled_iff] at h ⊢
  intro i hi
  rw [Memory.read?_write]
  split
  · rfl
  · exact h i (by omega)

theorem Memory.filled_writeList (m : Memory) (vs : List Byte) : (m.writeList 0 vs).filled vs.length = true := by
  rw [Memory.filled_iff]
  intro i hi
  simp [Memory.read?_writeList, hi]

/-- A frame holds the span but for its two address bytes (R111). -/
theorem decodeSpan_length {span : List Byte} {f : Frame} (h : decodeSpan span = some f) :
    f.body.length + 2 = span.length := by
  match span with
  | [] => simp [decodeSpan] at h
  | [_] => simp [decodeSpan] at h
  | dst :: src :: body =>
    obtain rfl : Frame.mk dst src body = f := by simpa [decodeSpan] using h
    rfl

theorem satDec_le (w : Word) : (satDec w).toNat ≤ w.toNat := by
  unfold satDec
  split
  · simp
  · bv_omega

/-! ### The sequencer -/

/-- What a running command has latched (R12). -/
theorem sequencerOk_iff (s : State) : s.sequencerOk = true ↔
    (s.curop = .none ∧ s.status.busy = false ∧ s.opst = .idle) ∨ (s.curop = .send ∧ s.status.busy = true ∧ s.opst = .tx) ∨
    (s.curop = .rdf ∧ s.status.busy = true ∧ s.opst = .rd) ∨
    (s.curop = .xact ∧ s.status.busy = true ∧ (s.opst = .tx ∨ s.opst = .rd)) := by
  cases hc : s.curop <;> simp [State.sequencerOk, hc]

/-- The frame of a returned invocation is short enough for the result frame registers. -/
def ReadEnd.fits (bmax : Nat) (r : ReadEnd) : Prop := ∀ f, r = .frame f → f.body.length ≤ bmax

theorem ReadEnd.fits_malformed (bmax : Nat) : ReadEnd.malformed.fits bmax := nofun

theorem ReadEnd.fits_timeout (bmax : Nat) : ReadEnd.timeout.fits bmax := nofun

theorem dueOk_of_none {s : State} (hdue : s.due = none) : s.dueOk = true := by simp [State.dueOk, hdue]

theorem dueOk_returned_iff {s : State} {r : ReadEnd} (hdue : s.due = some (.returned r)) :
    s.dueOk = true ↔ s.opst = .rd ∧ r.fits s.bmax := by
  cases r <;> simp [State.dueOk, hdue, ReadEnd.fits]

theorem dueOk_check_iff {s : State} (hdue : s.due = some .check) : s.dueOk = true ↔ s.curop = .xact ∧ s.opst = .rd := by
  simp [State.dueOk, hdue]

theorem dueOk_sent_iff {s : State} (hdue : s.due = some .sent) : s.dueOk = true ↔ s.curop = .send ∧ s.opst = .tx := by
  simp [State.dueOk, hdue]

/-! ### The invariant while the block takes bytes -/

/-- The invariant but for `rx_taken`: what holds while the block is still taking the bytes the transport holds. -/
def State.InvTaking (s : State) : Prop := ({ s with rxq := [] } : State).Inv

theorem inv_iff (s : State) : s.Inv ↔ s.InvTaking ∧ (s.reading → s.rxq = []) where
  mp h := ⟨{ h with rx_taken := fun _ => rfl }, h.rx_taken⟩
  mpr h := { h.1 with rx_taken := h.2 }

theorem State.Inv.taking {s : State} (h : s.Inv) : s.InvTaking := ((inv_iff s).1 h).1

section
variable {s : State} (h : s.InvTaking)
include h

theorem State.InvTaking.sequencer_cases :
    (s.curop = .none ∧ s.status.busy = false ∧ s.opst = .idle) ∨ (s.curop = .send ∧ s.status.busy = true ∧ s.opst = .tx) ∨
    (s.curop = .rdf ∧ s.status.busy = true ∧ s.opst = .rd) ∨
    (s.curop = .xact ∧ s.status.busy = true ∧ (s.opst = .tx ∨ s.opst = .rd)) :=
  (sequencerOk_iff s).1 h.sequencer

theorem State.InvTaking.curop_of_rd (ho : s.opst = .rd) : s.curop = .rdf ∨ s.curop = .xact := by
  have hcases := h.sequencer_cases
  grind

theorem State.InvTaking.busy_of_curop (hc : s.curop ≠ .none) : s.status.busy = true := by
  have hcases := h.sequencer_cases
  grind

/-- While no command runs nothing is latched and no step is due. -/
theorem State.InvTaking.idle_of_not_busy (hbusy : s.status.busy = false) :
    s.curop = .none ∧ s.opst = .idle ∧ s.due = none := by
  have hidle : s.curop = .none ∧ s.opst = .idle := by
    have hcases := h.sequencer_cases
    grind
  obtain ⟨hc, ho⟩ := hidle
  refine ⟨hc, ho, ?_⟩
  have hdue : s.dueOk = true := h.due_place
  cases hd : s.due with
  | none => rfl
  | some a =>
    cases a with
    | returned r => simp [dueOk_returned_iff hd, ho] at hdue
    | check => simp [dueOk_check_iff hd, ho] at hdue
    | sent => simp [dueOk_sent_iff hd, ho] at hdue

end

/-! ### Outcomes -/

/-- Any outcome leaves the invariant when the result registers it writes agree with each other (R23, R24, R191). -/
theorem ended_inv {s : State} (h : s.InvTaking) (r : ResultReg) (dst src : Byte) (n : Nat) (m : Memory)
    (hcls : r.valid = r.cls.isSome) (hkind : r.valid = r.kind.carriesFrame) (hlen : n ≤ s.bmax) (hwf : m.wf = true)
    (hfilled : r.valid = true → m.filled n = true) :
    State.InvTaking { s with
      result := r, resTo := dst, resFrom := src, resLen := n, resBody := m, curop := .none, opst := .idle, due := none
      status := { s.status with busy := false, done := true } } :=
  { h with
    sequencer := rfl
    busy_not_done := nofun
    due_place := rfl
    tx_index := nofun
    rx_taken := fun _ => rfl
    hunting_empty := nofun
    resLen_le := hlen
    rtcnt_le := nofun
    dlcnt_le := nofun
    cls_valid := hcls
    kind_busy := nofun
    valid_kind := fun _ => hkind
    valid_uxseen := nofun
    uxseen_xact := nofun
    resBody_wf := hwf
    resBody_filled := hfilled }

theorem raise_nothing_inv {s : State} {k : Kind} (h : s.InvTaking) (hk : k.carriesFrame = false) :
    (raise k .nothing { s with due := none }).InvTaking :=
  ended_inv h ⟨k, none, false⟩ 0 0 0 s.resBody rfl hk.symm (Nat.zero_le _) h.resBody_wf nofun

theorem raise_frame_inv {s : State} {k : Kind} {f : Frame} (h : s.InvTaking) (hk : k.carriesFrame = true)
    (hf : f.body.length ≤ s.bmax) : (raise k (.frame f) { s with due := none }).InvTaking :=
  ended_inv h ⟨k, some (classify f), true⟩ f.dst f.src f.body.length (s.resBody.writeList 0 f.body) rfl hk.symm hf
    (Memory.wf_writeList f.body s.resBody 0 h.resBody_wf) fun _ => s.resBody.filled_writeList f.body

theorem raise_recorded_inv {s : State} {k : Kind} (h : s.InvTaking) (hk : k.carriesFrame = true)
    (hvalid : s.result.valid = true) : (raise k .recorded { s with due := none }).InvTaking :=
  ended_inv h { s.result with kind := k } s.resTo s.resFrom s.resLen s.resBody h.cls_valid (hvalid.trans hk.symm)
    h.resLen_le h.resBody_wf h.resBody_filled

/-- Where nothing is due, an operation does what it does once nothing is due. -/
theorem inv_of_clear_due {s : State} (op : State → State) (hdue : s.due = none)
    (h : (op { s with due := none }).InvTaking) : (op s).InvTaking := by
  rwa [← hdue] at h

/-! ### The reader -/

section
variable {s : State} (h : s.InvTaking)
include h

theorem startRead_inv : (startRead s).InvTaking := { h with rtcnt_le := fun _ => le_rfl }

theorem startInvocation_inv (hc : s.curop = .rdf ∨ s.curop = .xact) (hdue : s.due = none) :
    (startInvocation s).InvTaking :=
  have hbusy : s.status.busy = true := h.busy_of_curop (by rcases hc with hc | hc <;> simp [hc])
  { h with
    sequencer := (sequencerOk_iff _).2 (by simpa [hbusy] using hc)
    due_place := dueOk_of_none hdue
    tx_index := nofun
    rx_taken := fun _ => rfl
    blen_le := Nat.zero_le _
    hunting_empty := fun _ _ => rfl
    rtcnt_le := fun _ => le_rfl
    buf_filled := rfl }

/-- A step that becomes due where the running command can come to it. -/
theorem setDue_inv {a : Due} (hok : ({ s with due := some a } : State).dueOk = true) :
    State.InvTaking { s with due := some a } :=
  { h with
    due_place := hok
    tx_index := fun ho => ⟨nofun, (h.tx_index ho).2⟩
    rx_taken := fun _ => rfl }

/-- While the block reads, a step that was due is one no longer. -/
theorem clearDue_inv (ho : s.opst = .rd) : State.InvTaking { s with due := none } :=
  { h with
    due_place := rfl
    tx_index := fun htx => nomatch ho.symm.trans htx
    rx_taken := fun _ => rfl }

theorem orLater_inv {a : Due} {now : State → State} (hnow : (now s).InvTaking)
    (hok : ({ s with due := some a } : State).dueOk = true) : (orLater a now s).InvTaking := by
  rcases orLater_cases a now s with ⟨-, e⟩ | ⟨-, e⟩ <;> rw [e]
  · exact hnow
  · exact setDue_inv h hok

theorem deadlineCheck_inv (hc : s.curop = .xact) (hdue : s.due = none) : (deadlineCheck s).InvTaking := by
  rcases deadlineCheck_cases s with ⟨-, e⟩ | ⟨-, hux, e⟩ | ⟨-, -, e⟩ <;> rw [e]
  · exact startInvocation_inv h (.inr hc) hdue
  · have hbusy : s.status.busy = true := h.busy_of_curop (by simp [hc])
    have hvalid : s.result.valid = true := (h.valid_uxseen hbusy).trans hux
    exact inv_of_clear_due (raise .unexpected .recorded) hdue (raise_recorded_inv h rfl hvalid)
  · exact inv_of_clear_due (raise .timeout .nothing) hdue (raise_nothing_inv h rfl)

theorem checkNext_inv (hc : s.curop = .xact) (ho : s.opst = .rd) (hdue : s.due = none) : (checkNext s).InvTaking :=
  orLater_inv h (deadlineCheck_inv h hc hdue) ((dueOk_check_iff rfl).2 ⟨hc, ho⟩)

/-- Only an XACT records a frame (R131). -/
theorem recordUnexpected_inv {f : Frame} (hc : s.curop = .xact) (hf : f.body.length ≤ s.bmax) :
    (recordUnexpected f s).InvTaking :=
  have hbusy : s.status.busy = true := h.busy_of_curop (by simp [hc])
  { h with
    resLen_le := hf
    cls_valid := rfl
    valid_kind := fun hidle => nomatch hbusy.symm.trans hidle
    valid_uxseen := fun _ => rfl
    uxseen_xact := fun _ _ => hc
    resBody_wf := Memory.wf_writeList f.body s.resBody 0 h.resBody_wf
    resBody_filled := fun _ => s.resBody.filled_writeList f.body }

theorem raiseTerminal_inv {f : Frame} (hdue : s.due = none) (hf : f.body.length ≤ s.bmax) :
    (raiseTerminal f s).InvTaking := by
  rcases raiseTerminal_cases f s with ⟨-, e⟩ | ⟨-, e⟩ | ⟨-, e⟩ | ⟨-, e⟩ | ⟨-, e⟩ <;> rw [e]
  · exact inv_of_clear_due (raise .data (.frame f)) hdue (raise_frame_inv h rfl hf)
  · exact inv_of_clear_due (raise .ack .nothing) hdue (raise_nothing_inv h rfl)
  · exact inv_of_clear_due (raise .nak .nothing) hdue (raise_nothing_inv h rfl)
  · exact h
  · exact h

theorem rdfInvocationEnd_inv {r : ReadEnd} (hdue : s.due = none) (hfits : r.fits s.bmax) :
    (rdfInvocationEnd r s).InvTaking := by
  cases r with
  | frame f => exact inv_of_clear_due (raise .frame (.frame f)) hdue (raise_frame_inv h rfl (hfits f rfl))
  | malformed => exact inv_of_clear_due (raise .malformed .nothing) hdue (raise_nothing_inv h rfl)
  | timeout => exact inv_of_clear_due (raise .timeout .nothing) hdue (raise_nothing_inv h rfl)

theorem xactInvocationEnd_inv {r : ReadEnd} (hc : s.curop = .xact) (ho : s.opst = .rd) (hdue : s.due = none)
    (hfits : r.fits s.bmax) : (xactInvocationEnd r s).InvTaking := by
  rcases xactInvocationEnd_cases r s with ⟨f, hr, -, e⟩ | ⟨f, hr, -, e⟩ | ⟨-, e⟩ <;> rw [e]
  · exact raiseTerminal_inv h hdue (hfits f hr)
  · exact checkNext_inv (recordUnexpected_inv h hc (hfits f hr)) hc ho hdue
  · exact checkNext_inv h hc ho hdue

theorem invocationEnd_inv {r : ReadEnd} (ho : s.opst = .rd) (hdue : s.due = none) (hfits : r.fits s.bmax) :
    (invocationEnd r s).InvTaking := by
  rcases h.curop_of_rd ho with hc | hc <;> simp only [invocationEnd, hc]
  · exact rdfInvocationEnd_inv h hdue hfits
  · exact xactInvocationEnd_inv h hc ho hdue hfits

theorem invocationReturns_inv {r : ReadEnd} (hreading : s.reading) (hfits : r.fits s.bmax) :
    (invocationReturns r s).InvTaking :=
  orLater_inv h (invocationEnd_inv h hreading.1 hreading.2 hfits) ((dueOk_returned_iff rfl).2 ⟨hreading.1, hfits⟩)

theorem countMalformed_inv : (countMalformed s).InvTaking := { h with }

/-- The span is at most `LMAX` long, so the body of its frame is at most `BMAX` long (R5). -/
theorem spanComplete_inv (hreading : s.reading) : (spanComplete s).InvTaking := by
  unfold spanComplete
  cases hspan : decodeSpan s.span with
  | none => exact invocationReturns_inv (countMalformed_inv h) hreading (ReadEnd.fits_malformed _)
  | some f =>
    have hlen : f.body.length + 2 = s.blen := by simpa [State.span] using decodeSpan_length hspan
    have hblen : s.blen ≤ s.lmax := h.blen_le
    have hbody : f.body.length ≤ s.bmax := by unfold State.bmax; omega
    exact invocationReturns_inv h hreading (by rintro g ⟨⟩; exact hbody)

theorem setOvf_inv (b : Bool) : State.InvTaking { s with status := { s.status with ovf := b } } := { h with }

theorem accumulate_inv (b : Byte) (hrs : s.rs = .accum) (hlt : s.blen < s.lmax) : (accumulate b s).InvTaking :=
  { h with
    blen_le := hlt
    hunting_empty := fun _ hne => absurd hrs hne
    buf_wf := s.buf.wf_write s.blen b h.buf_wf
    buf_filled := s.buf.filled_write_end b h.buf_filled }

/-- The reader moves to another of its steps, with nothing accumulated unless it was accumulating. -/
theorem setRs_inv (rs : ReaderState) (hrs : s.rs ≠ .accum) : State.InvTaking { s with rs := rs } :=
  { h with hunting_empty := fun ho _ => h.hunting_empty ho hrs }

theorem readByte_inv (b : Byte) (hreading : s.reading) : (readByte b s).InvTaking := by
  rcases readByte_cases b s with ⟨-, -, e⟩ | ⟨hrs, -, e⟩ | ⟨hrs, -, e⟩ | ⟨hrs, -, e⟩ | ⟨-, -, e⟩ | ⟨hrs, -, hlt, e⟩ | ⟨-, -, -, e⟩ <;>
    rw [e]
  · exact startRead_inv h
  · exact startRead_inv (setRs_inv h .hunt2 (by simp [hrs]))
  · exact startRead_inv (setRs_inv h .accum (by simp [hrs]))
  · exact startRead_inv (setRs_inv h .hunt1 (by simp [hrs]))
  · exact spanComplete_inv h hreading
  · exact startRead_inv (accumulate_inv h b hrs hlt)
  · exact invocationReturns_inv (countMalformed_inv (setOvf_inv h true)) hreading (ReadEnd.fits_malformed _)

end

/-! ### The receive stream -/

/-- The block takes bytes until none is left or no byte read is pending. -/
theorem takeBytes_inv (bs : List Byte) {s : State} (h : s.InvTaking) : (takeBytes bs s).Inv := by
  induction bs generalizing s with
  | nil => exact h
  | cons b bs ih =>
    by_cases hreading : s.reading
    · rw [takeBytes_cons b bs s hreading]
      exact ih (readByte_inv h b hreading)
    · rw [takeBytes_waits _ s hreading]
      exact (inv_iff _).2 ⟨h, fun hr => absurd hr hreading⟩

theorem takeHeld_inv {s : State} (h : s.InvTaking) : (takeHeld s).Inv := takeBytes_inv s.rxq h

theorem arrive_inv (bytes : List Byte) {s : State} (h : s.InvTaking) : (arrive bytes s).Inv :=
  takeHeld_inv (s := { s with rxq := s.rxq ++ bytes }) h

theorem raise_rxq (k : Kind) (info : Info) (s : State) : (raise k info s).rxq = s.rxq := by cases info <;> rfl

theorem checkNext_rxq (s : State) : (checkNext s).rxq = s.rxq := by
  rcases orLater_cases .check deadlineCheck s with ⟨-, e⟩ | ⟨-, e⟩ <;> rw [checkNext, e]
  rcases deadlineCheck_cases s with ⟨-, e⟩ | ⟨-, -, e⟩ | ⟨-, -, e⟩ <;> simp [e]

theorem invocationEnd_rxq (r : ReadEnd) (s : State) : (invocationEnd r s).rxq = s.rxq := by
  unfold invocationEnd
  cases s.curop with
  | none => rfl
  | send => rfl
  | rdf => cases r <;> exact raise_rxq _ _ s
  | xact =>
    rcases xactInvocationEnd_cases r s with ⟨f, -, -, e⟩ | ⟨f, -, -, e⟩ | ⟨-, e⟩ <;> simp only [e]
    · rcases raiseTerminal_cases f s with ⟨-, e⟩ | ⟨-, e⟩ | ⟨-, e⟩ | ⟨-, e⟩ | ⟨-, e⟩ <;> simp [e]
    · simp [checkNext_rxq]
    · exact checkNext_rxq s

/-- A returned invocation leaves the bytes the transport holds. -/
theorem invocationReturns_rxq (r : ReadEnd) (s : State) : (invocationReturns r s).rxq = s.rxq := by
  rcases orLater_cases (.returned r) (invocationEnd r) s with ⟨-, e⟩ | ⟨-, e⟩ <;> rw [invocationReturns, e]
  exact invocationEnd_rxq r s

theorem expired_iff (s : State) : s.expired = true ↔ s.reading ∧ s.rtcnt = 0 ∧ s.rxq = [] := by
  simp [State.expired, and_assoc]

theorem quietCycle_inv {s : State} (h : s.Inv) : (quietCycle s).Inv := by
  unfold quietCycle
  split
  case isTrue hexpired =>
    obtain ⟨hreading, -, hrxq⟩ := (expired_iff s).1 hexpired
    have htaking := invocationReturns_inv h.taking hreading (ReadEnd.fits_timeout _)
    exact (inv_iff _).2 ⟨htaking, fun _ => (invocationReturns_rxq .timeout s).trans hrxq⟩
  case isFalse => exact h

/-! ### The transmit side and the step that is due -/

theorem putByte_inv {s : State} (b : Byte) (h : s.InvTaking) (hle : s.txidx + 1 ≤ s.bmax + 5)
    (hlt : s.opst = .tx → s.due = none → s.txidx + 1 < s.txLen + 5) : (putByte b s).InvTaking :=
  { h with
    tx_index := fun ho => ⟨hlt ho, (h.tx_index ho).2⟩
    txidx_le := hle }

/-- After the last byte is put the block transmits no longer, or its outcome is due. -/
theorem leaveTx_putByte_inv {s : State} (b : Byte) (h : s.Inv) (hput : s.putting) (hle : s.txidx + 1 ≤ s.bmax + 5) :
    (leaveTx (putByte b s)).Inv := by
  obtain ⟨ho, hdue⟩ := hput
  rcases leaveTx_cases (putByte b s) with ⟨hc, e⟩ | ⟨hc, e⟩ | ⟨hc, -⟩
  · rcases orLater_cases .sent raiseSent (putByte b s) with ⟨-, e'⟩ | ⟨-, e'⟩ <;> rw [e, e']
    · have hsent := inv_of_clear_due (raise .sent .nothing) hdue (raise_nothing_inv h.taking rfl)
      exact (inv_iff _).2 ⟨putByte_inv b hsent hle nofun, fun hr => nomatch hr.1⟩
    · have hsent := setDue_inv h.taking ((dueOk_sent_iff rfl).2 ⟨hc, ho⟩)
      exact (inv_iff _).2 ⟨putByte_inv b hsent hle nofun, fun hr => nomatch hr.2⟩
  · rw [e]
    exact takeHeld_inv (putByte_inv b (startInvocation_inv h.taking (.inr hc) hdue) hle nofun)
  · have hcurop : s.curop = .none ∨ s.curop = .rdf := hc
    have hcases := h.taking.sequencer_cases
    grind

theorem txAccept_inv {s : State} (h : s.Inv) : (txAccept s).Inv := by
  rcases txAccept_cases s with e | ⟨b, hput, hlt, hcase⟩
  · rwa [e]
  have hfits : s.txLen ≤ s.bmax := (h.tx_index hput.1).2
  have hle : s.txidx + 1 ≤ s.bmax + 5 := by omega
  rcases hcase with ⟨-, e⟩ | ⟨hne, e⟩ <;> rw [e]
  · exact leaveTx_putByte_inv b h hput hle
  · have htaking := putByte_inv b h.taking hle fun _ _ => by omega
    exact (inv_iff _).2 ⟨htaking, fun hr => nomatch hput.1.symm.trans hr.1⟩

theorem perform_inv {s : State} {a : Due} (h : s.InvTaking) (hdue : s.due = some a) :
    (perform a { s with due := none }).InvTaking := by
  have hok : s.dueOk = true := h.due_place
  cases a with
  | returned r =>
    obtain ⟨ho, hfits⟩ := (dueOk_returned_iff hdue).1 hok
    exact invocationEnd_inv (clearDue_inv h ho) ho rfl hfits
  | check =>
    obtain ⟨hc, ho⟩ := (dueOk_check_iff hdue).1 hok
    exact deadlineCheck_inv (clearDue_inv h ho) hc rfl
  | sent => exact raise_nothing_inv h rfl

theorem settle_inv {s : State} (h : s.Inv) : (settle s).Inv := by
  cases hdue : s.due with
  | none => rwa [settle_none s hdue]
  | some a =>
    rw [settle_some a s hdue]
    exact takeHeld_inv (perform_inv h.taking hdue)

/-! ### Time, reset and the host -/

theorem tickDeadline_inv {s : State} (h : s.Inv) : (tickDeadline s).Inv :=
  { h with
    dlcnt_le := fun hc => by
      have hle := h.dlcnt_le hc
      have hdec := satDec_le s.dlcnt
      simp only [tickDeadline]
      split <;> omega }

theorem tickRead_inv {s : State} (h : s.Inv) : (tickRead s).Inv :=
  { h with
    rtcnt_le := fun ho => by
      have hle := h.rtcnt_le ho
      have hdec := satDec_le s.rtcnt
      simp only [tickRead]
      split <;> omega }

theorem tickAll_inv {s : State} (h : s.Inv) : (tickAll s).Inv := tickRead_inv (tickDeadline_inv (quietCycle_inv h))

theorem tickLag_inv {s : State} (h : s.Inv) : (tickLag s).Inv := by
  unfold tickLag
  split
  · exact tickAll_inv h
  · exact tickDeadline_inv h

/-- The reset values have the invariant in every build the spec allows (R5, R31). -/
theorem resetBlock_inv {s : State} (hlmax : 10 ≤ s.lmax) : (resetBlock s).Inv where
  lmax_ge := hlmax
  sequencer := rfl
  busy_not_done := nofun
  due_place := rfl
  tx_index := nofun
  txidx_le := Nat.zero_le _
  rx_taken := nofun
  blen_le := Nat.zero_le _
  hunting_empty := nofun
  resLen_le := Nat.zero_le _
  rtcnt_le := nofun
  dlcnt_le := nofun
  cls_valid := rfl
  kind_busy := nofun
  valid_kind := fun _ => rfl
  valid_uxseen := nofun
  uxseen_xact := nofun
  txBody_wf := rfl
  resBody_wf := rfl
  buf_wf := rfl
  buf_filled := rfl
  resBody_filled := nofun

/-- A host write while idle: no register it reaches is in use (R13(c)). -/
theorem writeReg_inv {s : State} (r : Reg) (d : Word) (h : s.Inv) (hbusy : s.status.busy = false) : (writeReg r d s).Inv := by
  obtain ⟨hc, ho, hdue⟩ := h.taking.idle_of_not_busy hbusy
  cases r with
  | rdtmo => exact { h with rtcnt_le := fun hrd => nomatch ho.symm.trans hrd }
  | deadline => exact { h with dlcnt_le := fun hx => nomatch hc.symm.trans hx }
  | txLen => exact { h with tx_index := fun htx => nomatch ho.symm.trans htx }
  | txBody i => exact { h with txBody_wf := s.txBody.wf_write i (d.setWidth 8) h.txBody_wf }
  | status => exact { h with busy_not_done := fun hb => nomatch hbusy.symm.trans hb }
  | _ => exact { h with }

theorem hostWrite_inv {s : State} (n : RegNum) (d : Word) (h : s.Inv) : (hostWrite n d s).Inv := by
  cases hbusy : s.status.busy with
  | true => rwa [hostWrite_of_busy n d hbusy]
  | false =>
    simp only [hostWrite, hbusy]
    exact writeReg_inv _ d h hbusy

/-- Every stimulus keeps the invariant. -/
theorem deliver_inv (e : Stimulus) {s : State} (h : s.Inv) : (deliver e s).Inv := by
  cases e with
  | write n d => exact hostWrite_inv n d h
  | read n => exact { h with }
  | rx bytes => exact arrive_inv bytes h.taking
  | quiet => exact quietCycle_inv h
  | txReady => exact txAccept_inv h
  | tick => exact tickAll_inv h
  | lagTick => exact tickLag_inv h
  | lags on => exact { h with }
  | settle => exact settle_inv h
  | reset => exact resetBlock_inv h.lmax_ge

/-! ### Commands -/

theorem cmdError_inv {s : State} (h : s.Inv) : (cmdError s).Inv := { h with }

theorem setInbox_inv {s : State} (es : List Stimulus) (h : s.Inv) : State.Inv { s with inbox := es } := { h with }

/-- A running command keeps the invariant for as long as it goes on within a step. -/
theorem drive_inv (es : List Stimulus) {s : State} (h : s.Inv) : (drive es s).Inv := by
  induction es generalizing s with
  | nil => exact setInbox_inv [] h
  | cons e es ih =>
    rw [drive_cons]
    split
    · exact ih (deliver_inv e h)
    · exact setInbox_inv (e :: es) h

section
variable {s : State} (h : s.Inv)
include h

/-- An accepted SEND or XACT, before the first byte of a frame that fits (R84, R126). -/
theorem accepted_tx_inv {op : CurOp} {d : Word} (hsend : s.sendable = true) (hop : op = .send ∨ op = .xact)
    (hd : op = .xact → d.toNat ≤ s.deadline.toNat) :
    State.Inv { acceptCommand op s with opst := .tx, txidx := 0, dlcnt := d } := by
  obtain ⟨hbusy, hfits⟩ := (sendable_iff s).1 hsend
  obtain ⟨-, -, hdue⟩ := h.taking.idle_of_not_busy hbusy
  exact { h with
    sequencer := (sequencerOk_iff _).2 (by simpa using hop)
    busy_not_done := fun _ => rfl
    due_place := dueOk_of_none hdue
    tx_index := fun _ => ⟨fun _ => Nat.succ_pos _, hfits⟩
    txidx_le := Nat.zero_le _
    rx_taken := nofun
    hunting_empty := nofun
    resLen_le := Nat.zero_le _
    rtcnt_le := nofun
    dlcnt_le := hd
    cls_valid := rfl
    kind_busy := fun _ => rfl
    valid_kind := nofun
    valid_uxseen := fun _ => rfl
    uxseen_xact := nofun
    resBody_filled := nofun }

/-- An accepted RDF at the start of its reader invocation (R91, R104). -/
theorem accepted_rdf_inv (hbusy : s.status.busy = false) : (startInvocation (acceptCommand .rdf s)).InvTaking := by
  obtain ⟨-, -, hdue⟩ := h.taking.idle_of_not_busy hbusy
  exact { h with
    sequencer := rfl
    busy_not_done := fun _ => rfl
    due_place := dueOk_of_none hdue
    tx_index := nofun
    rx_taken := fun _ => rfl
    blen_le := Nat.zero_le _
    hunting_empty := fun _ _ => rfl
    resLen_le := Nat.zero_le _
    rtcnt_le := fun _ => le_rfl
    dlcnt_le := nofun
    cls_valid := rfl
    kind_busy := fun _ => rfl
    valid_kind := nofun
    valid_uxseen := fun _ => rfl
    uxseen_xact := nofun
    buf_filled := rfl
    resBody_filled := nofun }

theorem acceptSend_inv (hsend : s.sendable = true) : (acceptSend s).Inv :=
  accepted_tx_inv h (d := s.dlcnt) hsend (.inl rfl) nofun

theorem acceptXact_inv (hsend : s.sendable = true) : (acceptXact s).Inv :=
  accepted_tx_inv h (d := s.deadline) hsend (.inr rfl) fun _ => le_rfl

theorem acceptRdf_inv (hbusy : s.status.busy = false) : (acceptRdf s).Inv := takeHeld_inv (accepted_rdf_inv h hbusy)

/-- Every instruction keeps the invariant. -/
theorem exec_inv {i : Instr} {t : State} (hexec : exec i s = .next t) : t.Inv := by
  rcases exec_cases hexec with ⟨-, rfl⟩ | rfl | ⟨hsend, rfl⟩ | ⟨hbusy, rfl⟩ | ⟨hsend, rfl⟩ | rfl
  · exact h
  · exact cmdError_inv h
  · exact drive_inv _ (acceptSend_inv h hsend)
  · exact drive_inv _ (acceptRdf_inv h hbusy)
  · exact drive_inv _ (acceptXact_inv h hsend)
  · exact arrive_inv _ h.taking

end

/-! ### The obligations -/

/-- Settles O5: the reset values, in a build whose `LMAX` is 10 and an unknown excess (R5). -/
theorem resetHasInvariant : Obligations.ResetHasInvariant :=
  resetBlock_inv (s := State.reset) (Nat.le_add_left 10 Config.lmaxExcess)

/-- Settles O4: the next stimulus is an instruction or takes effect by itself, and both keep the invariant. -/
theorem stepKeepsInvariant : Obligations.StepKeepsInvariant := by
  intro s t h hstep
  rcases step_cases hstep with ⟨-, rfl⟩ | ⟨e, es, -, ⟨i, -, hexec⟩ | rfl⟩
  · exact h
  · exact exec_inv (setInbox_inv es h) hexec
  · exact deliver_inv e (setInbox_inv es h)

end Sys2Proof.Machine
end

section
/-! The rest of the family: the host registers (R13 to R25), commands while busy, the interrupt, reset values, the two timers. -/

namespace Sys2Proof.Machine

/-! ### Steps that are no instruction -/

theorem RegNum.ne_cmd_of_bank {bank : Nat} (hb : bank ≠ 0) (i : Nat) : RegNum.mk bank i ≠ RegNum.cmd :=
  fun h => hb (congrArg RegNum.bank h)

theorem RegNum.ne_cmd_of_index {i : Nat} (hi : i ≠ 0) (bank : Nat) : RegNum.mk bank i ≠ RegNum.cmd :=
  fun h => hi (congrArg RegNum.index h)

theorem fetch_write_eq_none {n : RegNum} {d : Word} (hn : n ≠ RegNum.cmd) : fetch (.write n d) = none :=
  fetch_eq_none_of_no_image (if_neg hn)

theorem step_write {s : State} {n : RegNum} {d : Word} {es : List Stimulus} (hn : n ≠ RegNum.cmd)
    (hinbox : s.inbox = .write n d :: es) : step s = .next (hostWrite n d { s with inbox := es }) :=
  step_of_fetch_none hinbox (fetch_write_eq_none hn)

/-- A host write while idle reaches the register of its number (R13(c)). -/
theorem step_write_of_idle {s : State} {n : RegNum} {d : Word} {es : List Stimulus} {r : Reg} (hn : n ≠ RegNum.cmd)
    (hbusy : s.status.busy = false) (hreg : Reg.ofNum s.bmax n = r) (hinbox : s.inbox = .write n d :: es) :
    step s = .next (writeReg r d { s with inbox := es }) := by
  rw [step_write hn hinbox, ← hreg]
  simp [hostWrite, hbusy, State.bmax]

theorem step_reset {s : State} {es : List Stimulus} (hinbox : s.inbox = .reset :: es) :
    step s = .next (resetBlock { s with inbox := es }) :=
  step_of_fetch_none hinbox rfl

theorem step_tick {s : State} {es : List Stimulus} (hinbox : s.inbox = .tick :: es) :
    step s = .next (tickAll { s with inbox := es }) :=
  step_of_fetch_none hinbox rfl

/-! ### Reset, commands, classes -/

/-- Settles O2: the reset input leads to `resetBlock`, which takes every element of the table from `State.reset`. -/
theorem resetStateValues : Obligations.ResetStateValues := by
  refine ⟨by decide, fun s es hinbox => ⟨_, step_reset hinbox, ?_⟩⟩
  and_intros <;> rfl

/-- Bits 2:0 of a word, one by one. -/
theorem getLsbD_eq_of_low_bits {w w' : Word} (h : w.extractLsb' 0 3 = w'.extractLsb' 0 3) {i : Nat} (hi : i < 3) :
    w.getLsbD i = w'.getLsbD i := by
  have hbit := congrArg (·.getLsbD i) h
  simpa [hi] using hbit

/-- Settles O9: the decoder reads the bits 2, 1 and 0, and the field 1:0 of a reserved code, alone. -/
theorem commandCodeIsLowThreeBits : Obligations.CommandCodeIsLowThreeBits := by
  refine ⟨fun w w' h => ?_, rfl, rfl, rfl, rfl, rfl, rfl, rfl, rfl⟩
  have hcode : w.extractLsb' 0 2 = w'.extractLsb' 0 2 := by
    apply BitVec.eq_of_getLsbD_eq
    intro i hi
    simpa [hi] using getLsbD_eq_of_low_bits h (by omega : i < 3)
  simp only [decodeCmd, hcode, getLsbD_eq_of_low_bits h (by decide : 0 < 3), getLsbD_eq_of_low_bits h (by decide : 1 < 3),
    getLsbD_eq_of_low_bits h (by decide : 2 < 3)]

/-- Settles O14: `terminal` and `outcomeOf` are the table of R116, class by class. -/
theorem terminalClassesByMask : Obligations.TerminalClassesByMask :=
  ⟨fun _ => ⟨rfl, rfl, rfl, rfl, rfl⟩, rfl, rfl, rfl, rfl, rfl⟩

/-- Settles O18: a busy block is not `sendable`, and each of the three commands is then a host mistake. -/
theorem busyRefusesEveryCommand : Obligations.BusyRefusesEveryCommand := by
  intro s hbusy
  have hsend := sendable_of_busy hbusy
  refine ⟨?send, ?rdf, ?xact⟩
  case send => simp [exec, execSend, hsend, cmdError]
  case rdf => simp [exec, execRdf, hbusy, cmdError]
  case xact => simp [exec, execXact, hsend, cmdError]

/-! ### Host writes -/

/-- Settles O47. -/
theorem busyIgnoresRegisterWrites : Obligations.BusyIgnoresRegisterWrites := by
  intro s n d es hbusy hn hinbox
  rw [step_write hn hinbox, hostWrite_of_busy (s := { s with inbox := es }) n d hbusy]

/-- The numbers from `RESULT` on name read-only or reserved registers of bank 0 (R14, R23 to R25). -/
theorem writeReg_ofBank0_of_ge {i : Nat} (hi : 9 ≤ i) (d : Word) (s : State) : writeReg (Reg.ofBank0 i) d s = s := by
  match i, hi with
  | 9, _ => rfl
  | 10, _ => rfl
  | 11, _ => rfl
  | 12, _ => rfl
  | 13, _ => rfl
  | i + 14, _ => rfl

theorem ofNum_bank1 {bmax i : Nat} (hi : i < bmax) : Reg.ofNum bmax ⟨1, i⟩ = .txBody i := if_pos hi

theorem ofNum_bank1_reserved {bmax i : Nat} (hi : bmax ≤ i) : Reg.ofNum bmax ⟨1, i⟩ = .reserved := if_neg hi.not_gt

theorem ofNum_bank2 {bmax i : Nat} (hi : i < bmax) : Reg.ofNum bmax ⟨2, i⟩ = .resBody i := if_pos hi

theorem ofNum_bank2_reserved {bmax i : Nat} (hi : bmax ≤ i) : Reg.ofNum bmax ⟨2, i⟩ = .reserved := if_neg hi.not_gt

theorem ofNum_bank_ge {bmax bank : Nat} (hb : 3 ≤ bank) (i : Nat) : Reg.ofNum bmax ⟨bank, i⟩ = .reserved := by
  match bank, hb with
  | bank + 3, _ => rfl

/-- Bank 2 is read-only and the banks above it are reserved (R14, R24). -/
theorem writeReg_bank_ge {bmax bank : Nat} (hb : 2 ≤ bank) (i : Nat) (d : Word) (s : State) :
    writeReg (Reg.ofNum bmax ⟨bank, i⟩) d s = s := by
  rcases hb.eq_or_lt with rfl | hb
  · by_cases hi : i < bmax
    · rw [ofNum_bank2 hi]; rfl
    · rw [ofNum_bank2_reserved (by omega)]; rfl
  · rw [ofNum_bank_ge hb]; rfl

theorem writeReg_txLen {s : State} (h : s.bmax ≤ 255) (d : Word) :
    writeReg .txLen d s = { s with txLen := d.toNat % 256 } := by
  have hwidth : lenWidth s.bmax = 8 := if_pos h
  simp only [writeReg, hwidth, Nat.reducePow]

/-- Settles O50: each number names its register, and `writeReg` says what a write does to it. -/
theorem idleRegisterWrites : Obligations.IdleRegisterWrites := by
  intro s d es n hbusy hinbox
  refine ⟨?ctrl, ?expect, ?rdtmo, ?deadline, ?txTo, ?txFrom, ?txLen, ?bank0, ?bank1, ?bank2⟩
  case ctrl => rintro rfl; exact step_write_of_idle (by decide) hbusy rfl hinbox
  case expect => rintro rfl; exact step_write_of_idle (by decide) hbusy rfl hinbox
  case rdtmo => rintro rfl; exact step_write_of_idle (by decide) hbusy rfl hinbox
  case deadline => rintro rfl; exact step_write_of_idle (by decide) hbusy rfl hinbox
  case txTo => rintro rfl; exact step_write_of_idle (by decide) hbusy rfl hinbox
  case txFrom => rintro rfl; exact step_write_of_idle (by decide) hbusy rfl hinbox
  case txLen =>
    rintro rfl hbmax
    rw [step_write_of_idle (r := .txLen) (by decide) hbusy rfl hinbox]
    exact congrArg _ (writeReg_txLen (s := { s with inbox := es }) hbmax d)
  all_goals obtain ⟨bank, i⟩ := n
  case bank0 =>
    rintro rfl (hi : 9 ≤ i)
    rw [step_write_of_idle (RegNum.ne_cmd_of_index (by omega) 0) hbusy rfl hinbox]
    exact congrArg _ (writeReg_ofBank0_of_ge hi d _)
  case bank1 =>
    rintro rfl (hi : s.lmax - 2 ≤ i)
    exact step_write_of_idle (RegNum.ne_cmd_of_bank one_ne_zero i) hbusy (ofNum_bank1_reserved hi) hinbox
  case bank2 =>
    intro (hbank : 2 ≤ bank)
    rw [step_write_of_idle (RegNum.ne_cmd_of_bank (by omega) i) hbusy rfl hinbox]
    exact congrArg _ (writeReg_bank_ge hbank i d _)

/-- Settles O51: the register of the number is `TX_BODY[i]`, and the buffer obeys the read-after-write law. -/
theorem txBodyWriteStoresOneByte : Obligations.TxBodyWriteStoresOneByte := by
  intro s d es i hbusy hi hinbox
  exact ⟨_, step_write_of_idle (RegNum.ne_cmd_of_bank one_ne_zero i) hbusy (ofNum_bank1 hi) hinbox, rfl,
    fun a => s.txBody.read?_write i a (d.setWidth 8), s.txBody.wf_write i (d.setWidth 8)⟩

/-- A write-1-to-clear flag. -/
theorem and_not_eq_ite (flag clear : Bool) : (flag && !clear) = if clear then false else flag := by cases clear <;> simp

/-- Settles O52. -/
theorem statusWriteOneToClear : Obligations.StatusWriteOneToClear := by
  intro s d es hbusy hinbox
  rw [step_write_of_idle (r := .status) (by decide) hbusy rfl hinbox]
  simp only [writeReg, Status.writeOneToClear, and_not_eq_ite]

/-! ### The interrupt -/

theorem raise_irq (k : Kind) (info : Info) (s : State) : (raise k info s).irq = s.ie := by
  cases info <;> simp [State.irq]

/-- Settles O53: an outcome sets DONE, an acceptance and a clearing write clear it. -/
theorem irqFollowsDoneAndEnable : Obligations.IrqFollowsDoneAndEnable := by
  refine ⟨fun _ => rfl, raise_irq, fun _ _ => rfl, ?clearing⟩
  intro s d es t hbusy hinbox hbit hstep
  rw [step_write_of_idle (r := .status) (by decide) hbusy rfl hinbox] at hstep
  injection hstep with hstep
  simp [← hstep, State.irq, writeReg, Status.writeOneToClear, hbit]

/-! ### Host reads -/

/-- Settles O48. -/
theorem hostReadChangesNothing : Obligations.HostReadChangesNothing :=
  fun _ _ _ hinbox => step_of_fetch_none hinbox rfl

/-- A field placed above the bits of a word adds its value there. -/
theorem toNat_or_shiftLeft {a b : Word} {k : Nat} (ha : a.toNat < 2 ^ k) (hb : b.toNat * 2 ^ k < 2 ^ 32) :
    (a ||| b <<< k).toNat = a.toNat + 2 ^ k * b.toNat := by
  rw [BitVec.toNat_or, BitVec.toNat_shiftLeft, Nat.shiftLeft_eq, Nat.mod_eq_of_lt hb, Nat.or_comm, Nat.mul_comm,
    ← Nat.two_pow_add_eq_or_of_lt ha, Nat.add_comm]

/-- `STATUS` by its flags (R17). -/
theorem toNat_status_word (f : Status) : f.word.toNat =
    (if f.busy then 1 else 0) + (if f.done then 2 else 0) + (if f.uxseen then 4 else 0) + (if f.ovf then 8 else 0) +
      (if f.cmderr then 16 else 0) := by
  obtain ⟨busy, done, uxseen, ovf, cmderr⟩ := f
  revert busy done uxseen ovf cmderr
  decide

/-- `RESULT` by its fields (R23). -/
theorem toNat_result_word (r : ResultReg) :
    r.word.toNat = r.kind.code.toNat + 16 * (classCode r.cls).toNat + (if r.valid then 128 else 0) := by
  have hkind := r.kind.code.isLt
  have hcls := (classCode r.cls).isLt
  have hlow : (r.kind.code.setWidth 32 ||| (classCode r.cls).setWidth 32 <<< 4).toNat =
      r.kind.code.toNat + 16 * (classCode r.cls).toNat := by
    rw [toNat_or_shiftLeft] <;> simp <;> omega
  rw [ResultReg.word, toNat_or_shiftLeft (by omega), hlow]
  all_goals cases r.valid <;> simp [bit]

theorem ofBank0_reserved {i : Nat} (hi : 0x0E ≤ i) : Reg.ofBank0 i = .reserved := by
  match i, hi with
  | i + 14, _ => rfl

/-- A register narrower than the data word reads zero-extended (R13). -/
theorem toNat_setWidth_32 {n : Nat} (x : BitVec n) (hn : n ≤ 32) : (x.setWidth 32).toNat = x.toNat :=
  BitVec.toNat_setWidth_of_le hn

/-- Settles O49: `readValue` of the register each number names. -/
theorem registerReadValues : Obligations.RegisterReadValues := by
  intro s rd
  refine ⟨rfl, ?ctrl, toNat_status_word s.status, toNat_setWidth_32 s.expect (by decide), rfl, rfl,
    toNat_setWidth_32 s.txTo (by decide), toNat_setWidth_32 s.txFrom (by decide), BitVec.toNat_ofNat s.txLen 32,
    toNat_result_word s.result, toNat_setWidth_32 s.resTo (by decide), toNat_setWidth_32 s.resFrom (by decide),
    BitVec.toNat_ofNat s.resLen 32, toNat_setWidth_32 s.malcnt (by decide), ?reserved0, ?reservedBanks, ?txBody, ?resBody,
    ?pastBuffers⟩
  case ctrl => cases hie : s.ie <;> simp [rd, Reg.ofNum, Reg.ofBank0, readValue, bit, hie]
  case reserved0 =>
    intro i hi
    simp [rd, Reg.ofNum, ofBank0_reserved hi, readValue]
  case reservedBanks =>
    intro bank i hb
    simp [rd, ofNum_bank_ge hb, readValue]
  case txBody =>
    intro i b hi hread
    simp only [rd, ofNum_bank1 hi, readValue, hread, Option.getD_some]
    exact toNat_setWidth_32 b (by decide)
  case resBody =>
    intro i b hi hvalid hlen hread
    simp only [rd, ofNum_bank2 hi, readValue, hvalid, hlen, and_self, if_true, hread, Option.getD_some]
    exact toNat_setWidth_32 b (by decide)
  case pastBuffers =>
    intro i hi
    simp [rd, ofNum_bank1_reserved hi, ofNum_bank2_reserved hi, readValue]

/-! ### The two timers -/

theorem satDec_eq_ite (w : Word) : satDec w = if w ≠ 0 then w - 1 else 0 := by
  unfold satDec
  by_cases hw : w = 0 <;> simp [hw]

/-- What a tick makes of `DLCNT` (R27). -/
theorem tickDeadline_eq (s : State) : tickDeadline s =
    { s with ticks := s.ticks + 1, dlcnt := if s.curop = .xact ∧ s.dlcnt ≠ 0 then s.dlcnt - 1 else s.dlcnt } := by
  unfold tickDeadline satDec
  by_cases hc : s.curop = .xact
  · by_cases hd : s.dlcnt = 0
    · simp [hc, hd]
    · rw [if_pos hc, if_neg hd, if_pos ⟨hc, hd⟩]
  · rw [if_neg hc, if_neg fun h => hc h.1]

theorem tickRead_of_reading {s : State} (h : s.reading) :
    tickRead s = { s with rtcnt := if s.rtcnt ≠ 0 then s.rtcnt - 1 else 0 } := by
  simp only [tickRead, if_pos h, satDec_eq_ite]

theorem tickRead_of_not_reading {s : State} (h : ¬ s.reading) : tickRead s = s := by
  simp only [tickRead, if_neg h]

theorem quietCycle_of_not_expired {s : State} (h : ¬ (s.reading ∧ s.rtcnt = 0 ∧ s.rxq = [])) : quietCycle s = s := by
  rw [quietCycle, if_neg (by rwa [expired_iff])]

/-- In a block that spends no time of its own a read that has run out ends its invocation at once (R42, R234). -/
theorem quietCycle_of_expired {s : State} (h : s.reading ∧ s.rtcnt = 0 ∧ s.rxq = []) (hlags : s.lags = false) :
    quietCycle s = invocationEnd .timeout s := by
  rw [quietCycle, if_pos ((expired_iff s).2 h), readNoData, invocationReturns, orLater_now _ _ s hlags]

/-- An RDF whose read runs out ends with TIMEOUT (R104). -/
theorem invocationEnd_timeout_rdf {s : State} (hc : s.curop = .rdf) :
    invocationEnd .timeout s = raise .timeout .nothing s := by
  simp [invocationEnd, hc, rdfInvocationEnd]

/-- An XACT whose read runs out checks its deadline (R132). -/
theorem invocationEnd_timeout_xact {s : State} (hc : s.curop = .xact) (hlags : s.lags = false) :
    invocationEnd .timeout s = deadlineCheck s := by
  simp [invocationEnd, hc, xactInvocationEnd, checkNext, orLater_now _ _ s hlags]

/-- After an outcome a tick counts for no timer. -/
theorem tick_after_raise (k : Kind) (info : Info) (s : State) :
    tickRead (tickDeadline (raise k info s)) = { raise k info s with ticks := s.ticks + 1 } := by
  rw [tickRead_of_not_reading]
  all_goals cases info <;> simp [tickDeadline_eq]

/-- A tick while a read is pending that has not run out, or finds a held byte (R27, R28). -/
theorem tickAll_of_reading {s : State} (hreading : s.reading) (hmore : s.rtcnt ≠ 0 ∨ s.rxq ≠ []) :
    tickAll s = { s with
      ticks := s.ticks + 1, rtcnt := if s.rtcnt ≠ 0 then s.rtcnt - 1 else 0
      dlcnt := if s.curop = .xact ∧ s.dlcnt ≠ 0 then s.dlcnt - 1 else s.dlcnt } := by
  have hquiet : quietCycle s = s :=
    quietCycle_of_not_expired fun ⟨_, hrt, hrx⟩ => hmore.elim (· hrt) (· hrx)
  rw [tickAll, hquiet, tickRead_of_reading (s := tickDeadline s) hreading, tickDeadline_eq]

/-- A tick while no read is pending (R27, R28). -/
theorem tickAll_of_not_reading {s : State} (hreading : ¬ s.reading) :
    tickAll s = { s with
      ticks := s.ticks + 1, dlcnt := if s.curop = .xact ∧ s.dlcnt ≠ 0 then s.dlcnt - 1 else s.dlcnt } := by
  have hquiet : quietCycle s = s := quietCycle_of_not_expired fun ⟨hr, _, _⟩ => hreading hr
  rw [tickAll, hquiet, tickRead_of_not_reading (s := tickDeadline s) hreading, tickDeadline_eq]

section
variable {s : State} (hrun : s.reading ∧ s.rtcnt = 0 ∧ s.rxq = []) (hlags : s.lags = false)
include hrun hlags

/-- The tick that finds a read of an RDF run out (R42, R104). -/
theorem tickAll_of_expired_rdf (hc : s.curop = .rdf) :
    tickAll s = { raise .timeout .nothing s with ticks := s.ticks + 1 } := by
  rw [tickAll, quietCycle_of_expired hrun hlags, invocationEnd_timeout_rdf hc, tick_after_raise]

/-- The tick that finds a read of an XACT run out counts after the deadline check (R42, R132). -/
theorem tickAll_of_expired_xact (hc : s.curop = .xact) : tickAll s = tickRead (tickDeadline (deadlineCheck s)) := by
  rw [tickAll, quietCycle_of_expired hrun hlags, invocationEnd_timeout_xact hc hlags]

/-- Before the deadline the tick counts for the new read. -/
theorem tickAll_of_expired_xact_goes_on (hc : s.curop = .xact) (hd : s.dlcnt ≠ 0) :
    tickAll s = { s with
      rs := .hunt1, blen := 0, rtcnt := if s.rdtmo ≠ 0 then s.rdtmo - 1 else 0, dlcnt := s.dlcnt - 1
      ticks := s.ticks + 1 } := by
  rw [tickAll_of_expired_xact hrun hlags hc]
  obtain ⟨⟨ho, hdue⟩, -, -⟩ := hrun
  rcases deadlineCheck_cases s with ⟨-, e⟩ | ⟨hzero, -⟩ | ⟨hzero, -⟩
  · rw [e, tickRead_of_reading (s := tickDeadline (startInvocation s)) ⟨rfl, hdue⟩, tickDeadline_eq]
    simp only [startInvocation, startRead, ho, hc, ne_eq, hd, not_false_eq_true, and_self, if_true]
  · exact absurd hzero hd
  · exact absurd hzero hd

/-- At the deadline the transaction ends, with the recorded frame when there is one. -/
theorem tickAll_of_expired_xact_ends (hc : s.curop = .xact) (hd : s.dlcnt = 0) :
    tickAll s = { (if s.status.uxseen then raise .unexpected .recorded s else raise .timeout .nothing s) with
      ticks := s.ticks + 1 } := by
  rw [tickAll_of_expired_xact hrun hlags hc]
  rcases deadlineCheck_cases s with ⟨hne, -⟩ | ⟨-, hux, e⟩ | ⟨-, hux, e⟩
  · exact absurd hd hne
  · simp only [e, hux, tick_after_raise, if_true]
  · simp only [e, hux, tick_after_raise, Bool.false_eq_true, if_false]

end

/-- Settles O55: the step is `tickAll`, in each of its cases. -/
theorem tickDrivesTheTwoTimers : Obligations.TickDrivesTheTwoTimers := by
  intro s es hinbox
  rw [step_tick hinbox]
  refine ⟨?reading, ?notReading, ?expired⟩
  case reading => exact fun hreading hmore => congrArg _ (tickAll_of_reading (s := { s with inbox := es }) hreading hmore)
  case notReading => exact fun hreading => congrArg _ (tickAll_of_not_reading (s := { s with inbox := es }) hreading)
  case expired =>
    intro ho ⟨hlags, hdue⟩ hrt hrx
    have hrun : s.reading ∧ s.rtcnt = 0 ∧ s.rxq = [] := ⟨⟨ho, hdue⟩, hrt, hrx⟩
    refine ⟨?rdf, ?goesOn, ?unexpected, ?timeout⟩
    case rdf => exact fun hc => congrArg _ (tickAll_of_expired_rdf (s := { s with inbox := es }) hrun hlags hc)
    case goesOn =>
      exact fun hc hd => congrArg _ (tickAll_of_expired_xact_goes_on (s := { s with inbox := es }) hrun hlags hc hd)
    case unexpected =>
      intro hc hd hux
      rw [tickAll_of_expired_xact_ends (s := { s with inbox := es }) hrun hlags hc hd, if_pos hux]
      rfl
    case timeout =>
      intro hc hd hux
      rw [tickAll_of_expired_xact_ends (s := { s with inbox := es }) hrun hlags hc hd, if_neg (by simp [hux])]
      rfl

end Sys2Proof.Machine
end

section
/-! Bytes that arrive: a frame is its bytes, whatever instruction they decode to; bytes that wait, a silent line, noise. -/

namespace Sys2Proof.Machine

/-! ### A frame is delivered as its bytes -/

/-- Executing a frame is its arrival (log 7). -/
theorem exec_frame {i : Instr} (hframe : isFrame i = true) (s : State) : exec i s = .next (arrive i.wireBytes s) := by
  cases i with
  | nop | send | rdf | xact | cmdReserved => cases hframe
  | _ => rfl

theorem arrive_waits (bytes : List Byte) {s : State} (h : ¬ s.reading) : arrive bytes s = { s with rxq := s.rxq ++ bytes } :=
  takeBytes_waits (s.rxq ++ bytes) { s with rxq := s.rxq ++ bytes } h

/-- Settles O38: executing a frame is its arrival, and bytes that no read takes wait. -/
theorem frameWaitsWhileNotReading : Obligations.FrameWaitsWhileNotReading := by
  intro s i hframe hreading
  rw [exec_frame hframe, arrive_waits _ hreading]

theorem decodeExt_wireBytes (dst src : Byte) (rest : List Byte) :
    (decodeExt dst src rest).wireBytes = encodeFrame dst src (Config.opcExt1 :: rest) := by
  unfold decodeExt
  split
  case isTrue htail => split <;> simp_all [isSetTail, Instr.wireBytes]
  case isFalse => rfl

theorem decodeBody_wireBytes (dst src : Byte) (body : List Byte) :
    (decodeBody dst src body).wireBytes = encodeFrame dst src body := by
  cases body with
  | nil => rfl
  | cons op rest =>
    by_cases hfreq : op = Config.opcFreq
    · cases rest <;> simp [decodeBody, hfreq, Instr.wireBytes]
    by_cases hack : op = Config.opcAck
    · simp [decodeBody, hack, Instr.wireBytes, Config.opcAck, Config.opcFreq]
    by_cases hnak : op = Config.opcNak
    · simp [decodeBody, hnak, Instr.wireBytes, Config.opcNak, Config.opcAck, Config.opcFreq]
    by_cases hext : op = Config.opcExt1
    · subst hext
      simp only [decodeBody, hfreq, hack, hnak, if_false, if_true, decodeExt_wireBytes]
    · simp [decodeBody, hfreq, hack, hnak, hext, Instr.wireBytes]

theorem decodeSpanInstr_wireBytes (span : List Byte) :
    (decodeSpanInstr span).wireBytes = Config.preamble :: Config.preamble :: (span ++ [Config.term]) := by
  match span with
  | [] => rfl
  | [_] => rfl
  | dst :: src :: body => exact decodeBody_wireBytes dst src body

/-- The bytes of the decoded frame are the received ones (R46). -/
theorem decodeWire_wireBytes {bytes : List Byte} {i : Instr} (h : decodeWire bytes = .ok i) : i.wireBytes = bytes := by
  match bytes with
  | [] => simp [decodeWire] at h
  | [_] => simp [decodeWire] at h
  | p :: q :: rest =>
    obtain ⟨⟨rfl, rfl⟩, hterm, -, rfl⟩ : (p = Config.preamble ∧ q = Config.preamble) ∧ rest.getLast? = some Config.term ∧
        rest.dropLast.all plain = true ∧ decodeSpanInstr rest.dropLast = i := by
      simp only [decodeWire] at h
      split_ifs at h with hpre hterm hplain
      exact ⟨hpre, hterm, hplain, by injection h⟩
    rw [decodeSpanInstr_wireBytes, List.dropLast_append_getLast? _ hterm]

theorem isFrame_of_decodeWire {bytes : List Byte} {i : Instr} (h : decodeWire bytes = .ok i) : isFrame i = true := by
  have hbytes := decodeWire_wireBytes h
  cases i with
  | nop | send | rdf | xact | cmdReserved => subst hbytes; cases h
  | _ => rfl

/-- Received bytes arrive, whether they are one instruction or not (R46). -/
theorem step_rx {s : State} {bytes : List Byte} {es : List Stimulus} (hinbox : s.inbox = .rx bytes :: es) :
    step s = .next (arrive bytes { s with inbox := es }) := by
  cases hdecode : decodeWire bytes with
  | error err => exact step_of_fetch_none hinbox (fetch_eq_none_of_decode_error (im := .wire bytes) rfl hdecode)
  | ok i =>
    rw [step_of_fetch_some hinbox (fetch_eq_some (im := .wire bytes) rfl hdecode),
      exec_frame (isFrame_of_decodeWire hdecode), decodeWire_wireBytes hdecode]

theorem step_transport {s : State} {e : Stimulus} {es : List Stimulus} (he : e.isTransport = true)
    (hinbox : s.inbox = e :: es) : step s = .next (deliver e { s with inbox := es }) := by
  cases e with
  | rx bytes => exact step_rx hinbox
  | quiet | txReady | tick | lagTick => exact step_of_fetch_none hinbox rfl
  | write | read | lags | settle | reset => cases he

/-- A step is a command that the host writes, or its stimulus takes effect, the bytes of a frame like any others. -/
theorem step_cases_command {s t : State} (h : step s = .next t) :
    (s.inbox = [] ∧ t = s) ∨
    ∃ e es, s.inbox = e :: es ∧
      ((∃ w, e = .write RegNum.cmd w ∧ exec (decodeCmd w) { s with inbox := es } = .next t) ∨
        t = deliver e { s with inbox := es }) := by
  rcases step_cases h with hnil | ⟨e, es, hinbox, ⟨i, hfetch, hexec⟩ | ht⟩
  · exact .inl hnil
  · refine .inr ⟨e, es, hinbox, ?_⟩
    cases e with
    | write n w =>
      left
      by_cases hn : n = RegNum.cmd
      · subst hn
        obtain rfl : decodeCmd w = i := Option.some.inj hfetch
        exact ⟨w, rfl, hexec⟩
      · cases (fetch_write_eq_none hn).symm.trans hfetch
    | rx bytes =>
      rw [step_rx hinbox] at h
      exact .inr (Host.Outcome.next.inj h).symm
    | _ => cases hfetch
  · exact .inr ⟨e, es, hinbox, .inr ht⟩

/-- With nothing before it in the inbox, a stimulus of the transport fed to the machine takes effect. -/
theorem feed_transport {s : State} {e : Stimulus} (he : e.isTransport = true) (hinbox : s.inbox = []) :
    feed e s = deliver e s := by
  have hstep := step_transport (s := { s with inbox := s.inbox ++ [e] }) (es := []) he (by simp [hinbox])
  rw [feed, nextState_of_step hstep, ← hinbox]

/-! ### Noise -/

/-- While the reader hunts, a byte decides whether the next one can complete a preamble (R92, R95, R96). -/
theorem readByte_noise {b : Byte} {s : State} (hrs : s.rs = .hunt1 ∨ s.rs = .hunt2 ∧ b ≠ Config.preamble) :
    readByte b s = { s with rs := if b = Config.preamble then .hunt2 else .hunt1, rtcnt := s.rdtmo } := by
  rcases hrs with hrs | ⟨hrs, hb⟩
  · by_cases hb : b = Config.preamble
    · simp [readByte, hrs, hb, startRead]
    · simp [readByte, hrs, hb, startRead]
  · simp [readByte, hrs, hb, startRead]

theorem noPreamblePair_cons_cons (a b : Byte) (rest : List Byte) :
    noPreamblePair (a :: b :: rest) = true ↔
      ¬ (a = Config.preamble ∧ b = Config.preamble) ∧ noPreamblePair (b :: rest) = true := by
  simp [noPreamblePair, imp_iff_not_or]

/-- Bytes with no `FE FE` among them, nor made by the first of them, leave the reader hunting (R92, R93, R96). -/
theorem takeBytes_noise (b : Byte) (z : List Byte) {s : State} (hreading : s.reading)
    (hrs : s.rs = .hunt1 ∨ s.rs = .hunt2 ∧ b ≠ Config.preamble) (hpair : noPreamblePair (b :: z) = true) :
    takeBytes (b :: z) s = { s with
      rs := if (b :: z).getLast? = some Config.preamble then .hunt2 else .hunt1, rtcnt := s.rdtmo, rxq := [] } := by
  induction z generalizing b s with
  | nil =>
    rw [takeBytes_cons _ _ _ hreading, readByte_noise hrs, takeBytes_nil]
    simp
  | cons c z ih =>
    obtain ⟨hbc, hrest⟩ := (noPreamblePair_cons_cons b c z).1 hpair
    rw [takeBytes_cons _ _ _ hreading, readByte_noise hrs, List.getLast?_cons_cons]
    refine ih c hreading ?_ hrest
    by_cases hb : b = Config.preamble
    · exact .inr ⟨if_pos hb, fun hc => hbc ⟨hb, hc⟩⟩
    · exact .inl (if_neg hb)

theorem arrive_noise {z : List Byte} {s : State} (h : s.readerFresh) (hz : z ≠ []) (hpair : noPreamblePair z = true) :
    arrive z s = { s with rs := if z.getLast? = some Config.preamble then .hunt2 else .hunt1, rtcnt := s.rdtmo } := by
  obtain ⟨hreading, hrs, -, hrxq⟩ := h
  obtain ⟨b, z, rfl⟩ := List.exists_cons_of_ne_nil hz
  have htake := takeBytes_noise b z (s := { s with rxq := b :: z }) hreading (.inl hrs) hpair
  simp only [arrive, takeHeld, hrxq, List.nil_append, htake]

/-- One noise byte, met while the reader hunts. -/
theorem arrive_noise_byte {b : Byte} {s : State} (hreading : s.reading) (hrxq : s.rxq = [])
    (hrs : s.rs = .hunt1 ∨ s.rs = .hunt2 ∧ b ≠ Config.preamble) :
    arrive [b] s = { s with rs := if b = Config.preamble then .hunt2 else .hunt1, rtcnt := s.rdtmo } := by
  have htake := takeBytes_noise b [] (s := { s with rxq := [b] }) hreading hrs rfl
  simp only [arrive, takeHeld, hrxq, List.nil_append, htake, List.getLast?_singleton, Option.some.injEq]

/-- An endless alternation of the noise bytes `z` and ticks (R228). -/
def noiseAndTicks (z : Nat → Byte) (i : Nat) : Stimulus := if i % 2 = 0 then .rx [z (i / 2)] else .tick

/-- After `n` stimuli of an endless alternation of the noise bytes `z` and ticks, from the state `s`: only the reader's step and
the timers have moved, and the reader stands behind an `FE` only if the last byte was one. -/
structure NoiseRun (z : Nat → Byte) (s : State) (n : Nat) (t : State) : Prop where
  eq : t = { s with rs := t.rs, rtcnt := t.rtcnt, dlcnt := t.dlcnt, ticks := s.ticks + n / 2 }
  hunting : t.rs = .hunt1 ∨ t.rs = .hunt2 ∧ ∃ i, (n + 1) / 2 = i + 1 ∧ z i = Config.preamble
  rtcnt : n % 2 = 1 → t.rtcnt = s.rdtmo
  dlcnt : s.curop = .xact → t.dlcnt.toNat = s.dlcnt.toNat - n / 2

section
variable {z : Nat → Byte} {s t : State} {n : Nat} (h : NoiseRun z s n t)
include h

theorem NoiseRun.byte (hreading : s.reading) (hrxq : s.rxq = []) (heven : n % 2 = 0)
    (hz : ∀ i : Nat, ¬ (z i = Config.preamble ∧ z (i + 1) = Config.preamble)) :
    NoiseRun z s (n + 1) (arrive [z (n / 2)] t) := by
  have ht : t.reading ∧ t.rxq = [] ∧ t.rdtmo = s.rdtmo := by rw [h.eq]; exact ⟨hreading, hrxq, rfl⟩
  obtain ⟨htreading, htrxq, htrdtmo⟩ := ht
  have hhunt : t.rs = .hunt1 ∨ t.rs = .hunt2 ∧ z (n / 2) ≠ Config.preamble := by
    refine h.hunting.imp_right fun ⟨hrs, i, hi, hzi⟩ => ⟨hrs, fun hnext => hz i ⟨hzi, ?_⟩⟩
    rwa [show i + 1 = n / 2 by omega]
  rw [arrive_noise_byte htreading htrxq hhunt, htrdtmo]
  refine ⟨?eq, ?hunting, fun _ => rfl, ?dlcnt⟩
  case eq => rw [h.eq, show (n + 1) / 2 = n / 2 by omega]
  case hunting =>
    by_cases hb : z (n / 2) = Config.preamble
    · exact .inr ⟨if_pos hb, n / 2, by omega, hb⟩
    · exact .inl (if_neg hb)
  case dlcnt =>
    intro hc
    rw [show (n + 1) / 2 = n / 2 by omega]
    exact h.dlcnt hc

theorem NoiseRun.tick (hreading : s.reading) (hrdtmo : s.rdtmo ≠ 0) (hodd : n % 2 = 1) :
    NoiseRun z s (n + 1) (tickAll t) := by
  have ht : t.reading ∧ t.curop = s.curop := by rw [h.eq]; exact ⟨hreading, rfl⟩
  obtain ⟨htreading, htcurop⟩ := ht
  rw [tickAll_of_reading htreading (.inl (by rw [h.rtcnt hodd]; exact hrdtmo)), htcurop]
  refine ⟨?eq, ?hunting, by omega, ?dlcnt⟩
  case eq => rw [h.eq, show (n + 1) / 2 = n / 2 + 1 by omega]; rfl
  case hunting =>
    rw [show (n + 1 + 1) / 2 = (n + 1) / 2 by omega]
    exact h.hunting
  case dlcnt =>
    intro hc
    have hcount := h.dlcnt hc
    simp only [hc, true_and]
    split
    case isTrue hne => bv_omega
    case isFalse hzero => bv_omega

end

/-- A tick always finds a read just restarted, so that no read runs out. -/
theorem noiseRun_streamRun {z : Nat → Byte} {s : State} (hfresh : s.readerFresh) (hrdtmo : s.rdtmo ≠ 0) (hinbox : s.inbox = [])
    (hz : ∀ i : Nat, ¬ (z i = Config.preamble ∧ z (i + 1) = Config.preamble)) (n : Nat) :
    NoiseRun z s n (streamRun (noiseAndTicks z) s n) := by
  obtain ⟨hreading, hrs, -, hrxq⟩ := hfresh
  induction n with
  | zero => exact ⟨rfl, .inl hrs, nofun, fun _ => rfl⟩
  | succ n ih =>
    have hnil : (streamRun (noiseAndTicks z) s n).inbox = [] := by rw [ih.eq]; exact hinbox
    rw [streamRun_succ]
    by_cases heven : n % 2 = 0
    · rw [noiseAndTicks, if_pos heven, feed_transport rfl hnil]
      exact ih.byte hreading hrxq heven hz
    · rw [noiseAndTicks, if_neg heven, feed_transport rfl hnil]
      exact ih.tick hreading hrdtmo (by omega)

/-- Settles O34: the reader's noise lemma for one arrival, and `NoiseRun` for the endless run. -/
theorem noiseLeavesNoTrace : Obligations.NoiseLeavesNoTrace := by
  refine ⟨?once, ?endless⟩
  case once =>
    intro s z es hfresh hz hpair hinbox
    rw [step_rx hinbox, arrive_noise (s := { s with inbox := es }) hfresh hz hpair]
    rfl
  case endless =>
    intro s z hfresh _ hrdtmo hinbox hz n t
    have hrun : NoiseRun z s n t := noiseRun_streamRun hfresh hrdtmo hinbox hz n
    clear_value t
    have hdeadline : s.curop = .xact → s.dlcnt.toNat ≤ n / 2 → t.dlcnt = 0 := fun hc hle => by
      have hcount := hrun.dlcnt hc
      bv_omega
    rw [hrun.eq]
    exact ⟨rfl, rfl, hfresh.1.1, rfl, rfl, rfl, rfl, rfl, rfl, rfl, rfl, hdeadline⟩

/-! ### A silent line -/

/-- A running RDF on a silent line reads on until its timeout is used up, and then ends with TIMEOUT (R42, R104). -/
theorem drive_silentCycles {n : Nat} {s : State} (hbusy : s.status.busy = true) (hc : s.curop = .rdf) (hreading : s.reading)
    (hlags : s.lags = false) (hrxq : s.rxq = []) (hlt : s.rtcnt.toNat < n) :
    ∃ es, drive (silentCycles n) s =
      raise .timeout .nothing { s with rtcnt := 0, ticks := s.ticks + s.rtcnt.toNat, inbox := es } := by
  induction n generalizing s with
  | zero => omega
  | succ n ih =>
    rw [silentCycles, drive_cons, if_pos ⟨hbusy, rfl⟩, deliver]
    by_cases hrt : s.rtcnt = 0
    · refine ⟨.tick :: silentCycles n, ?_⟩
      rw [quietCycle_of_expired ⟨hreading, hrt, hrxq⟩ hlags, invocationEnd_timeout_rdf hc, drive_idle _ _ rfl]
      simp [raise, clearFrame, hrt]
    · have hquiet : quietCycle s = s := quietCycle_of_not_expired fun h => hrt h.2.1
      rw [hquiet, drive_cons, if_pos ⟨hbusy, rfl⟩, deliver, tickAll_of_reading hreading (.inl hrt), if_pos hrt]
      have hle : (s.rtcnt - 1).toNat + 1 = s.rtcnt.toNat := by bv_omega
      obtain ⟨es, hes⟩ := ih (s := { s with
        ticks := s.ticks + 1, rtcnt := s.rtcnt - 1, dlcnt := if s.curop = .xact ∧ s.dlcnt ≠ 0 then s.dlcnt - 1 else s.dlcnt })
        hbusy hc hreading hlags hrxq (by simp only; omega)
      refine ⟨es, hes.trans ?_⟩
      simp [hc, raise, clearFrame]
      omega

/-- Settles O26: with no byte held the accepted RDF waits with its whole timeout before it. -/
theorem rdfTimesOutAfterExactlyRdtmoTicks : Obligations.RdfTimesOutAfterExactlyRdtmoTicks := by
  intro s n hbusy ⟨hlags, hdue⟩ hrxq hlt hinbox
  have haccept : acceptRdf s = startInvocation (acceptCommand .rdf s) := by
    simp [acceptRdf, takeHeld, hrxq, takeBytes, startInvocation, startRead, acceptCommand]
  obtain ⟨es, hes⟩ := drive_silentCycles (n := n) (s := startInvocation (acceptCommand .rdf s)) rfl rfl ⟨rfl, hdue⟩ hlags hrxq hlt
  have hexec : exec .rdf s = .next (drive s.inbox (startInvocation (acceptCommand .rdf s))) := by
    simp [exec, execRdf, hbusy, runCommand, haccept, acceptCommand]
  rw [hinbox, hes] at hexec
  exact ⟨_, hexec, rfl, rfl, rfl, rfl, rfl, rfl, rfl, rfl, rfl⟩

end Sys2Proof.Machine
end

section
/-! What is put on the transmit stream: the next bytes of the running command's frame, and for a SEND the whole frame once. -/

namespace Sys2Proof.Machine

/-! ### Waiting for an acceptance -/

/-- While no byte read is pending and no byte is accepted, ticks are counted and arriving bytes wait (R27, R43, R235). -/
theorem deliver_of_not_reading {e : Stimulus} {s : State} (hreading : ¬ s.reading) (he : e.isTransport = true)
    (hne : e ≠ .txReady) :
    deliver e s = { s with
      ticks := s.ticks + if e.isTick then 1 else 0
      dlcnt := if e.isTick ∧ s.curop = .xact ∧ s.dlcnt ≠ 0 then s.dlcnt - 1 else s.dlcnt
      rxq := s.rxq ++ e.bytes } := by
  cases e with
  | rx bytes => simp [deliver, arrive_waits bytes hreading, Stimulus.isTick, Stimulus.bytes]
  | quiet => simp [deliver, quietCycle_of_not_expired fun h => hreading h.1, Stimulus.isTick, Stimulus.bytes]
  | txReady => exact absurd rfl hne
  | tick => simp [deliver, tickAll_of_not_reading hreading, Stimulus.isTick, Stimulus.bytes]
  | lagTick =>
    have hlag : tickLag s = tickDeadline s := if_neg fun h => hreading h.1
    simp [deliver, hlag, tickDeadline_eq, Stimulus.isTick, Stimulus.bytes]
  | write | read | lags | settle | reset => cases he

theorem not_reading_of_tx {s : State} (ho : s.opst = .tx) : ¬ s.reading := fun h => nomatch ho.symm.trans h.1

/-- A transport that never accepts a byte keeps the command where it is, for ever (R235). -/
theorem streamRun_without_acceptance {env : Nat → Stimulus} {s : State} (ho : s.opst = .tx) (hinbox : s.inbox = [])
    (henv : ∀ i, (env i).isTransport = true ∧ env i ≠ .txReady) (n : Nat) :
    (streamRun env s n).status = s.status ∧ (streamRun env s n).opst = .tx ∧ (streamRun env s n).tx = s.tx ∧
      (streamRun env s n).inbox = [] := by
  induction n with
  | zero => exact ⟨rfl, ho, rfl, hinbox⟩
  | succ n ih =>
    obtain ⟨hstatus, ho', htx, hinbox'⟩ := ih
    obtain ⟨htransport, hne⟩ := henv n
    rw [streamRun_succ, feed_transport htransport hinbox', deliver_of_not_reading (not_reading_of_tx ho') htransport hne]
    exact ⟨hstatus, ho', htx, hinbox'⟩

/-! ### Acceptances -/

/-- An accepted byte is the frame's byte `TXIDX` (R87), and after the last one the command goes on. -/
theorem txAccept_of_putting {s : State} {b : Byte} (hput : s.putting) (hb : s.txFrame[s.txidx]? = some b) :
    txAccept s = if s.txidx + 1 = s.txLen + 5 then leaveTx (putByte b s) else putByte b s := by
  have hdata : s.txData = some b := by rw [State.txData, if_pos hput, hb]
  simp only [txAccept, hdata, length_txFrame, putByte]

theorem txAccept_of_not_putting {s : State} (hput : ¬ s.putting) : txAccept s = s := by
  simp [txAccept, State.txData, hput]

theorem exists_txFrame_byte {s : State} (hlt : s.txidx < s.txLen + 5) : ∃ b, s.txFrame[s.txidx]? = some b :=
  ⟨_, List.getElem?_eq_getElem (by rwa [length_txFrame])⟩

/-- Two stretches of a list, one behind the other. -/
theorem take_drop_append (l : List Byte) (i m n : Nat) :
    (l.drop i).take m ++ (l.drop (i + m)).take n = (l.drop i).take (m + n) := by
  rw [List.take_add, List.drop_drop]

theorem take_one_drop {l : List Byte} {i : Nat} {b : Byte} (hb : l[i]? = some b) : (l.drop i).take 1 = [b] := by
  rw [List.take_one, List.head?_drop, hb, Option.toList_some]

/-! ### A whole SEND -/

/-- A SEND that has taken the stimuli `es` of the transport, before its last byte is accepted. -/
def State.sendingAfter (s : State) (es : List Stimulus) : State :=
  { s with
    txidx := s.txidx + es.count .txReady
    tx := s.tx ++ (s.txFrame.drop s.txidx).take (es.count .txReady)
    ticks := s.ticks + es.countP Stimulus.isTick
    rxq := s.rxq ++ es.flatMap Stimulus.bytes }

theorem State.sendingAfter_nil (s : State) : s.sendingAfter [] = s := by simp [State.sendingAfter]

theorem State.sendingAfter_cons (s : State) (e : Stimulus) (es : List Stimulus) :
    (s.sendingAfter [e]).sendingAfter es = s.sendingAfter (e :: es) := by
  have hframe : (s.sendingAfter [e]).txFrame = s.txFrame := rfl
  rw [State.sendingAfter, hframe]
  simp only [State.sendingAfter, ← List.singleton_append (l := es), List.count_append, List.countP_append, List.flatMap_append,
    List.append_assoc, Nat.add_assoc, take_drop_append]

theorem deliver_of_sending {e : Stimulus} {s : State} (hput : s.putting) (hc : s.curop = .send) (he : e.isTransport = true)
    (hroom : s.txidx + [e].count .txReady < s.txLen + 5) : deliver e s = s.sendingAfter [e] := by
  by_cases hready : e = .txReady
  · subst hready
    have hroom : s.txidx + 1 < s.txLen + 5 := hroom
    obtain ⟨b, hb⟩ := exists_txFrame_byte (s := s) (by omega)
    rw [deliver, txAccept_of_putting hput hb, if_neg hroom.ne]
    simp [putByte, State.sendingAfter, take_one_drop hb, Stimulus.isTick, Stimulus.bytes]
  · rw [deliver_of_not_reading (not_reading_of_tx hput.1) he hready]
    simp [State.sendingAfter, hready, hc, List.countP_singleton]

/-- A SEND goes through any delays as long as a byte of its frame is left (R41, R87). -/
theorem drive_of_sending {es : List Stimulus} (rest : List Stimulus) {s : State} (hput : s.putting) (hc : s.curop = .send)
    (hbusy : s.status.busy = true) (hes : ∀ e ∈ es, e.isTransport = true)
    (hroom : s.txidx + es.count .txReady < s.txLen + 5) : drive (es ++ rest) s = drive rest (s.sendingAfter es) := by
  induction es generalizing s with
  | nil => rw [State.sendingAfter_nil, List.nil_append]
  | cons e es ih =>
    have hcount : (e :: es).count .txReady = [e].count .txReady + es.count .txReady := List.count_append (l₁ := [e])
    have he : e.isTransport = true := hes e List.mem_cons_self
    rw [List.cons_append, drive_cons, if_pos ⟨hbusy, he⟩, deliver_of_sending hput hc he (by omega),
      ← State.sendingAfter_cons s e es]
    exact ih (s := s.sendingAfter [e]) hput hc hbusy (fun e' he' => hes e' (List.mem_cons_of_mem e he'))
      (by simp only [State.sendingAfter]; omega)

/-- The last acceptance ends a SEND in a block that spends no time of its own (R84, R234). -/
theorem txAccept_last_of_sending {s : State} (hput : s.putting) (hc : s.curop = .send) (hlags : s.lags = false)
    (hlast : s.txidx + 1 = s.txLen + 5) :
    txAccept s = raise .sent .nothing { s with tx := s.tx ++ (s.txFrame.drop s.txidx).take 1, txidx := s.txidx + 1 } := by
  obtain ⟨b, hb⟩ := exists_txFrame_byte (s := s) (by omega)
  rw [txAccept_of_putting hput hb, if_pos hlast, take_one_drop hb]
  have hleave : leaveTx (putByte b s) = orLater .sent raiseSent (putByte b s) := by simp only [leaveTx, putByte, hc]
  rw [hleave, orLater_now _ _ (putByte b s) hlags]
  rfl

/-- A SEND at the start of its frame, among any delays, up to its outcome. -/
theorem drive_whole_send {es : List Stimulus} (rest : List Stimulus) {s : State} (hput : s.putting) (hc : s.curop = .send)
    (hbusy : s.status.busy = true) (hlags : s.lags = false) (hstart : s.txidx = 0) (hes : ∀ e ∈ es, e.isTransport = true)
    (hcount : es.count .txReady = s.txLen + 4) :
    drive (es ++ .txReady :: rest) s = raise .sent .nothing { s with
      txidx := s.txLen + 5, tx := s.tx ++ s.txFrame, ticks := s.ticks + es.countP Stimulus.isTick
      rxq := s.rxq ++ es.flatMap Stimulus.bytes, inbox := rest } := by
  rw [drive_of_sending _ hput hc hbusy hes (by omega), drive_cons, if_pos ⟨hbusy, rfl⟩, deliver,
    txAccept_last_of_sending (s := s.sendingAfter es) hput hc hlags (by simp only [State.sendingAfter]; omega),
    drive_idle _ _ rfl]
  have hkept : (s.sendingAfter es).txFrame = s.txFrame := rfl
  have hframe : s.txFrame.take (s.txLen + 4) ++ (s.txFrame.drop (s.txLen + 4)).take 1 = s.txFrame := by
    rw [← List.take_add, List.take_of_length_le (length_txFrame s).le]
  simp only [hkept]
  simp [State.sendingAfter, hstart, hcount, hframe, raise, clearFrame]

/-- Settles O22: the acceptance of SEND followed by `drive_whole_send`, and the run without an acceptance. -/
theorem sendToleratesEveryDelay : Obligations.SendToleratesEveryDelay := by
  refine ⟨?once, ?never⟩
  case once =>
    intro s es rest hbusy ⟨hlags, hdue⟩ hfits hes hcount hinbox
    have hsend : s.sendable = true := (sendable_iff s).2 ⟨hbusy, hfits⟩
    have hrun := drive_whole_send rest (s := acceptSend s) ⟨rfl, hdue⟩ rfl rfl hlags rfl hes hcount
    rw [exec, execSend, hsend, runCommand, acceptSend_inbox, hinbox, if_pos rfl, hrun]
    rfl
  case never =>
    intro s env ho _ hinbox henv n
    obtain ⟨hstatus, ho', htx, -⟩ := streamRun_without_acceptance ho hinbox henv n
    exact ⟨hstatus, ho', htx⟩

/-! ### Only the frame's bytes -/

/-- From `s` to `t` the bytes from `TXIDX` on were put, and nothing else (R41, R87); the operands, and so the frame, stay. -/
def FramePut (s t : State) : Prop :=
  OperandsKept s t ∧ s.txidx ≤ t.txidx ∧ t.tx = s.tx ++ (s.txFrame.drop s.txidx).take (t.txidx - s.txidx)

theorem OperandsKept.txFrame {s t : State} (h : OperandsKept s t) : t.txFrame = s.txFrame := by
  obtain ⟨-, -, -, -, -, hto, hfrom, hlen, hbody, hcount⟩ := h
  rw [State.txFrame, State.txFrame, State.txBodyBytes, State.txBodyBytes, hto, hfrom, hlen, hbody, hcount]

/-- Nothing is put. -/
theorem FramePut.of_kept {s t : State} (hops : OperandsKept s t) (htx : t.tx = s.tx) (hidx : t.txidx = s.txidx) :
    FramePut s t := ⟨hops, hidx.ge, by simp [htx, hidx]⟩

theorem FramePut.refl (s : State) : FramePut s s := .of_kept (.refl s) rfl rfl

theorem FramePut.trans {s t u : State} (hst : FramePut s t) (htu : FramePut t u) : FramePut s u := by
  obtain ⟨hops, hle, htx⟩ := hst
  obtain ⟨hops', hle', htx'⟩ := htu
  refine ⟨hops.trans hops', hle.trans hle', ?_⟩
  have happend := take_drop_append s.txFrame s.txidx (t.txidx - s.txidx) (u.txidx - t.txidx)
  rw [Nat.add_sub_cancel' hle, show t.txidx - s.txidx + (u.txidx - t.txidx) = u.txidx - s.txidx by omega] at happend
  rw [htx', htx, hops.txFrame, List.append_assoc, happend]

theorem ReceiveFrame.tx_kept {s t : State} (h : ReceiveFrame s t) : t.tx = s.tx ∧ t.txidx = s.txidx := by
  simp only [ReceiveFrame] at h
  simp_all

theorem ReceiveFrame.framePut {s t : State} (h : ReceiveFrame s t) : FramePut s t :=
  .of_kept h.operandsKept h.tx_kept.1 h.tx_kept.2

theorem quietCycle_receiveFrame (s : State) : ReceiveFrame s (quietCycle s) := by
  unfold quietCycle
  split
  · exact invocationReturns_receiveFrame .timeout s
  · exact .refl s

theorem tickAll_framePut (s : State) : FramePut s (tickAll s) :=
  .of_kept (tickAll_operandsKept s) (quietCycle_receiveFrame s).tx_kept.1 (quietCycle_receiveFrame s).tx_kept.2

theorem tickLag_framePut (s : State) : FramePut s (tickLag s) := by
  unfold tickLag
  split
  · exact tickAll_framePut s
  · exact .of_kept (tickDeadline_operandsKept s) rfl rfl

theorem leaveTx_framePut (s : State) : FramePut s (leaveTx s) := by
  rcases leaveTx_cases s with ⟨-, h⟩ | ⟨-, h⟩ | ⟨-, h⟩ <;> rw [h]
  · exact (orLater_receiveFrame _ _ s (raise_receiveFrame _ _ s)).framePut
  · have hstart : ReceiveFrame s (startInvocation s) := by simp [ReceiveFrame]
    exact (hstart.trans (takeBytes_receiveFrame _ _)).framePut
  · exact .refl s

theorem putByte_framePut {s : State} {b : Byte} (hb : s.txFrame[s.txidx]? = some b) : FramePut s (putByte b s) :=
  ⟨by simp [OperandsKept, putByte], Nat.le_succ _, by simp [putByte, take_one_drop hb]⟩

/-- An acceptance puts the frame's next byte or nothing. -/
theorem txAccept_framePut (s : State) : FramePut s (txAccept s) := by
  by_cases hput : s.putting
  · cases hb : s.txFrame[s.txidx]? with
    | none =>
      have hdata : s.txData = none := by rw [State.txData, if_pos hput, hb]
      rw [txAccept, hdata]
      exact .refl s
    | some b =>
      rw [txAccept_of_putting hput hb]
      split
      · exact (putByte_framePut hb).trans (leaveTx_framePut _)
      · exact putByte_framePut hb
  · rw [txAccept_of_not_putting hput]
    exact .refl s

theorem deliver_framePut {e : Stimulus} (he : e.isTransport = true) (s : State) : FramePut s (deliver e s) := by
  cases e with
  | rx bytes => exact (arrive_receiveFrame bytes s).framePut
  | quiet => exact (quietCycle_receiveFrame s).framePut
  | txReady => exact txAccept_framePut s
  | tick => exact tickAll_framePut s
  | lagTick => exact tickLag_framePut s
  | write | read | lags | settle | reset => cases he

/-- Within one step too a running command puts the next bytes of its frame and nothing else. -/
theorem drive_framePut (es : List Stimulus) (s : State) : FramePut s (drive es s) := by
  induction es generalizing s with
  | nil => exact .of_kept (by simp [drive, OperandsKept]) rfl rfl
  | cons e es ih =>
    rw [drive_cons]
    split
    case isTrue h => exact (deliver_framePut h.2 s).trans (ih _)
    case isFalse => exact .of_kept (by simp [OperandsKept]) rfl rfl

/-! ### A block that does not transmit puts nothing -/

theorem raise_opst (k : Kind) (info : Info) (s : State) : (raise k info s).opst = .idle := by cases info <;> rfl

theorem deadlineCheck_opst_ne_tx (s : State) : (deadlineCheck s).opst ≠ .tx := by
  rcases deadlineCheck_cases s with ⟨-, e⟩ | ⟨-, -, e⟩ | ⟨-, -, e⟩ <;> simp [e]

section
variable {s : State} (h : s.opst ≠ .tx)
include h

theorem orLater_opst_ne_tx (a : Due) {now : State → State} (hnow : (now s).opst ≠ .tx) : (orLater a now s).opst ≠ .tx := by
  rcases orLater_cases a now s with ⟨-, e⟩ | ⟨-, e⟩ <;> rw [e]
  · exact hnow
  · exact h

theorem checkNext_opst_ne_tx : (checkNext s).opst ≠ .tx := orLater_opst_ne_tx h .check (deadlineCheck_opst_ne_tx s)

theorem xactInvocationEnd_opst_ne_tx (r : ReadEnd) : (xactInvocationEnd r s).opst ≠ .tx := by
  rcases xactInvocationEnd_cases r s with ⟨f, -, -, e⟩ | ⟨f, -, -, e⟩ | ⟨-, e⟩ <;> rw [e]
  · rcases raiseTerminal_cases f s with ⟨-, e⟩ | ⟨-, e⟩ | ⟨-, e⟩ | ⟨-, e⟩ | ⟨-, e⟩ <;> simp [e, h]
  · exact checkNext_opst_ne_tx (s := recordUnexpected f s) h
  · exact checkNext_opst_ne_tx h

theorem invocationReturns_opst_ne_tx (r : ReadEnd) : (invocationReturns r s).opst ≠ .tx := by
  refine orLater_opst_ne_tx h (.returned r) ?_
  cases hc : s.curop <;> simp only [invocationEnd, hc]
  case none => exact h
  case send => exact h
  case rdf => cases r <;> simp [rdfInvocationEnd]
  case xact => exact xactInvocationEnd_opst_ne_tx h r

theorem spanComplete_opst_ne_tx : (spanComplete s).opst ≠ .tx := by
  unfold spanComplete
  split
  · exact invocationReturns_opst_ne_tx h _
  · exact invocationReturns_opst_ne_tx (s := countMalformed s) h .malformed

theorem readByte_opst_ne_tx (b : Byte) : (readByte b s).opst ≠ .tx := by
  rcases readByte_cases b s with ⟨-, -, e⟩ | ⟨-, -, e⟩ | ⟨-, -, e⟩ | ⟨-, -, e⟩ | ⟨-, -, e⟩ | ⟨-, -, -, e⟩ | ⟨-, -, -, e⟩ <;> rw [e]
  · exact h
  · exact h
  · exact h
  · exact h
  · exact spanComplete_opst_ne_tx h
  · exact h
  · exact invocationReturns_opst_ne_tx (s := countMalformed { s with status := { s.status with ovf := true } }) h .malformed

theorem takeBytes_opst_ne_tx (bs : List Byte) : (takeBytes bs s).opst ≠ .tx := by
  induction bs generalizing s h with
  | nil => exact h
  | cons b bs ih =>
    rw [takeBytes]
    split
    · exact ih (readByte_opst_ne_tx h b)
    · exact h

theorem quietCycle_opst_ne_tx : (quietCycle s).opst ≠ .tx := by
  unfold quietCycle
  split
  · exact invocationReturns_opst_ne_tx h .timeout
  · exact h

/-- No stimulus of the transport makes the block transmit; only the acceptance of a command does (R84, R126). -/
theorem deliver_opst_ne_tx {e : Stimulus} (he : e.isTransport = true) : (deliver e s).opst ≠ .tx := by
  cases e with
  | rx bytes => exact takeBytes_opst_ne_tx (s := { s with rxq := s.rxq ++ bytes }) h _
  | quiet => exact quietCycle_opst_ne_tx h
  | txReady =>
    rw [deliver, txAccept_of_not_putting fun hput => h hput.1]
    exact h
  | tick => exact quietCycle_opst_ne_tx h
  | lagTick =>
    rw [deliver, tickLag]
    split
    · exact quietCycle_opst_ne_tx h
    · exact h
  | write | read | lags | settle | reset => cases he

end

theorem perform_receiveFrame (a : Due) (s : State) : ReceiveFrame s (perform a s) := by
  cases a with
  | returned r => exact invocationEnd_receiveFrame r s
  | check => exact deadlineCheck_receiveFrame s
  | sent => exact raise_receiveFrame _ _ s

theorem settle_tx (s : State) : (settle s).tx = s.tx := by
  cases hdue : s.due with
  | none => rw [settle_none s hdue]
  | some a =>
    rw [settle_some a s hdue]
    exact ((perform_receiveFrame a _).trans (takeBytes_receiveFrame _ _)).tx_kept.1

theorem hostWrite_tx (n : RegNum) (d : Word) (s : State) : (hostWrite n d s).tx = s.tx := by
  unfold hostWrite
  split
  · rfl
  · cases Reg.ofNum s.bmax n <;> rfl

/-- Nothing but an acceptance by the transport puts a byte (R41). -/
theorem deliver_tx_of_ne_txReady {e : Stimulus} (he : e ≠ .txReady) (s : State) : (deliver e s).tx = s.tx := by
  cases e with
  | write n d => exact hostWrite_tx n d s
  | rx bytes => exact (arrive_receiveFrame bytes s).tx_kept.1
  | quiet => exact (quietCycle_receiveFrame s).tx_kept.1
  | txReady => exact absurd rfl he
  | tick => exact (quietCycle_receiveFrame s).tx_kept.1
  | lagTick =>
    rw [deliver, tickLag]
    split
    · exact (quietCycle_receiveFrame s).tx_kept.1
    · rfl
  | settle => exact settle_tx s
  | read | lags | reset => rfl

theorem deliver_tx_of_opst_ne_tx {s : State} (h : s.opst ≠ .tx) (e : Stimulus) : (deliver e s).tx = s.tx := by
  by_cases he : e = .txReady
  · rw [he, deliver, txAccept_of_not_putting fun hput => h hput.1]
  · exact deliver_tx_of_ne_txReady he s

theorem drive_tx_of_opst_ne_tx (es : List Stimulus) {s : State} (h : s.opst ≠ .tx) : (drive es s).tx = s.tx := by
  induction es generalizing s with
  | nil => rfl
  | cons e es ih =>
    rw [drive_cons]
    split
    case isTrue he => rw [ih (deliver_opst_ne_tx h he.2), deliver_tx_of_opst_ne_tx h]
    case isFalse => rfl

/-! ### What a step puts -/

/-- An accepted SEND or XACT puts its frame from the first byte on. -/
theorem runCommand_tx {s : State} (hstart : s.txidx = 0) :
    (runCommand s).cmdCount = s.cmdCount ∧ (runCommand s).tx = s.tx ++ s.txFrame.take (runCommand s).txidx := by
  obtain ⟨⟨-, -, -, -, -, -, -, -, -, hcount⟩, -, htx⟩ := drive_framePut s.inbox s
  rw [hstart, List.drop_zero, Nat.sub_zero] at htx
  exact ⟨hcount, htx⟩

/-- An RDF puts nothing (R104). -/
theorem runCommand_acceptRdf_tx (s : State) : (runCommand (acceptRdf s)).tx = s.tx := by
  have hreads : (acceptRdf s).opst ≠ .tx := takeBytes_opst_ne_tx (s := startInvocation (acceptCommand .rdf s)) nofun _
  rw [runCommand, drive_tx_of_opst_ne_tx _ hreads]
  exact (takeBytes_receiveFrame _ _).tx_kept.1

/-- What an instruction puts: an accepted SEND or XACT the first bytes of its frame, every other one nothing. -/
theorem exec_tx_cases {i : Instr} {s t : State} (h : exec i s = .next t) :
    t.tx = s.tx ∨
    ((i = .send ∨ i = .xact) ∧ s.status.busy = false ∧ t.cmdCount = s.cmdCount + 1 ∧
      t.tx = s.tx ++ (encodeFrame s.txTo s.txFrom
        (s.txBody.slice (Config.unwrittenTxByte (s.cmdCount + 1)) 0 s.txLen)).take t.txidx) := by
  cases i with
  | send =>
    injection h with h
    subst h
    cases hsend : s.sendable with
    | false => exact .inl rfl
    | true => exact .inr ⟨.inl rfl, ((sendable_iff s).1 hsend).1, runCommand_tx (s := acceptSend s) rfl⟩
  | xact =>
    injection h with h
    subst h
    cases hsend : s.sendable with
    | false => exact .inl rfl
    | true => exact .inr ⟨.inr rfl, ((sendable_iff s).1 hsend).1, runCommand_tx (s := acceptXact s) rfl⟩
  | rdf =>
    injection h with h
    subst h
    left
    cases s.status.busy with
    | false => exact runCommand_acceptRdf_tx s
    | true => rfl
  | nop =>
    injection h with h
    subst h
    left
    cases s.status.busy <;> rfl
  | cmdReserved lo =>
    injection h with h
    subst h
    exact .inl rfl
  | _ =>
    injection h with h
    subst h
    exact .inl (arrive_receiveFrame _ s).tx_kept.1

/-- Settles O23: within a step the bytes come from an acceptance by the transport or from an accepted command. -/
theorem onlyFrameBytesAreTransmitted : Obligations.OnlyFrameBytesAreTransmitted := by
  intro s t _ hstep
  rcases step_cases_command hstep with ⟨-, rfl⟩ | ⟨e, es, hinbox, ⟨w, rfl, hexec⟩ | rfl⟩
  · exact .inl rfl
  · rcases exec_tx_cases hexec with htx | ⟨hi, hbusy, hcount, htx⟩
    · exact .inl htx
    · exact .inr (.inr ⟨hbusy, hcount, ⟨w, es, hinbox, hi⟩, htx⟩)
  · by_cases ho : s.opst = .tx
    · by_cases he : e = .txReady
      · subst he
        obtain ⟨-, -, htx⟩ := txAccept_framePut { s with inbox := es }
        exact .inr (.inl ⟨ho, htx⟩)
      · exact .inl (deliver_tx_of_ne_txReady he _)
    · exact .inl (deliver_tx_of_opst_ne_tx (s := { s with inbox := es }) ho e)

end Sys2Proof.Machine
end

section
/-! Encoding and decoding are each other's inverse (R60 to R63, R69, R70, R113). -/

namespace Sys2Proof

open Machine (encodeFrame isFrame plain_iff)

/-! ### Spans between the preamble and the terminator -/

/-- Packed BCD never holds the terminator (R145). -/
theorem plain_of_isBcd {b : Byte} (hb : isBcd b = true) : plain b = true := by
  rw [plain_iff]
  rintro rfl
  revert hb
  decide

@[simp] theorem plain_opcodes : plain Config.opcFreq = true ∧ plain Config.opcAck = true ∧ plain Config.opcNak = true ∧
    plain Config.opcExt1 = true ∧ plain Config.opcExt2 = true := by decide

theorem isClassOpcode_opcExt1 : isClassOpcode Config.opcExt1 = false := by decide

/-- A delimited span decodes by its bytes (R60, R63). -/
theorem decodeWire_delimited {span : List Byte} (hspan : span.all plain = true) :
    decodeWire (Config.preamble :: Config.preamble :: (span ++ [Config.term])) = .ok (decodeSpanInstr span) := by
  simp only [decodeWire, List.getLast?_concat, List.dropLast_concat, hspan, and_self, if_true]

/-- Only a delimited span decodes (R60, R63). -/
theorem exists_span_of_decodeWire {bytes : List Byte} {i : Instr} (h : decodeWire bytes = .ok i) :
    ∃ span : List Byte, span.all plain = true ∧ decodeSpanInstr span = i := by
  match bytes with
  | [] => cases h
  | [_] => cases h
  | p :: q :: rest =>
    simp only [decodeWire] at h
    split_ifs at h with _ _ hplain
    exact ⟨rest.dropLast, hplain, Except.ok.inj h⟩

/-! ### What each body decodes to (R66, R146 to R152) -/

theorem decodeBody_freqReport (dst src : Byte) {payload : List Byte} (h : payload ≠ []) :
    decodeBody dst src (Config.opcFreq :: payload) = .freqReport dst src payload := by
  cases payload with
  | nil => exact absurd rfl h
  | cons p ps => rfl

theorem decodeBody_ext (dst src : Byte) (rest : List Byte) :
    decodeBody dst src (Config.opcExt1 :: rest) = decodeExt dst src rest := rfl

theorem decodeExt_of_not_setTail (dst src : Byte) {rest : List Byte} (h : isSetTail rest = false) :
    decodeExt dst src rest = .other dst src Config.opcExt1 rest := by
  simp [decodeExt, h]

theorem decodeExt_setTimeHM (dst src sub op : Byte) {hh mm : Byte} (hhh : isBcd hh = true) (hmm : isBcd mm = true) :
    decodeExt dst src [Config.opcExt2, sub, op, hh, mm] = .setTimeHM dst src sub op hh mm := by
  simp [decodeExt, isSetTail, hhh, hmm]

theorem decodeExt_setTimeHMS (dst src sub op : Byte) {hh mm ss : Byte} (hhh : isBcd hh = true) (hmm : isBcd mm = true)
    (hss : isBcd ss = true) :
    decodeExt dst src [Config.opcExt2, sub, op, hh, mm, ss] = .setTimeHMS dst src sub op hh mm ss := by
  simp [decodeExt, isSetTail, hhh, hmm, hss]

theorem decodeExt_setDate (dst src sub op : Byte) {yyHi yyLo mm dd : Byte} (hhi : isBcd yyHi = true) (hlo : isBcd yyLo = true)
    (hmm : isBcd mm = true) (hdd : isBcd dd = true) :
    decodeExt dst src [Config.opcExt2, sub, op, yyHi, yyLo, mm, dd] = .setDate dst src sub op yyHi yyLo mm dd := by
  simp [decodeExt, isSetTail, hhi, hlo, hmm, hdd]

/-- The default row (R152): no opcode byte of a class, and no date or time. -/
theorem decodeBody_other (dst src : Byte) {op : Byte} {rest : List Byte} (hclass : isClassOpcode op = false)
    (hset : op = Config.opcExt1 → isSetTail rest = false) : decodeBody dst src (op :: rest) = .other dst src op rest := by
  obtain ⟨⟨hfreq, hack⟩, hnak⟩ : (op ≠ Config.opcFreq ∧ op ≠ Config.opcAck) ∧ op ≠ Config.opcNak := by
    simpa [isClassOpcode] using hclass
  by_cases hext : op = Config.opcExt1
  · rw [hext, decodeBody_ext, decodeExt_of_not_setTail dst src (hset hext)]
  · simp only [decodeBody, hfreq, hack, hnak, hext, if_false]

/-! ### Decoding after encoding -/

/-- The image of a frame is its bytes. -/
theorem encode_of_isFrame {i : Instr} (hframe : isFrame i = true) : encode i = .wire i.wireBytes := by
  cases i with
  | nop | send | rdf | xact | cmdReserved => cases hframe
  | _ => rfl

/-- The field 1:0 of a reserved code is kept (R70). -/
theorem decode_encode_cmdReserved (lo : BitVec 2) : decode (encode (.cmdReserved lo)) = .ok (.cmdReserved lo) := by
  revert lo
  decide

/-- A frame row comes back when its span holds no terminator and its body decodes to it. -/
theorem decode_encode_of_body {i : Instr} {dst src : Byte} {body : List Byte}
    (hencode : encode i = .wire (encodeFrame dst src body)) (hplain : (dst :: src :: body).all plain = true)
    (hbody : decodeBody dst src body = i) : decode (encode i) = .ok i := by
  rw [hencode, ← hbody]
  exact decodeWire_delimited (span := dst :: src :: body) hplain

/-- Settles O7: row by row, a well-formed frame's span holds no terminator, and its body is the one its row decodes from. -/
theorem decodeOfEncodeIsIdentity : Obligations.DecodeOfEncodeIsIdentity := by
  intro i hwf
  cases i with
  | nop | send | rdf | xact => rfl
  | cmdReserved lo => exact decode_encode_cmdReserved lo
  | undersized x =>
    cases x with
    | none => rfl
    | some x => exact decodeWire_delimited (span := [x]) (by simpa [Instr.wellFormed] using hwf)
  | noopc dst src => exact decode_encode_of_body rfl (by simpa [Instr.wellFormed] using hwf) rfl
  | freqQuery dst src => exact decode_encode_of_body rfl (by simpa [Instr.wellFormed] using hwf) rfl
  | freqReport dst src payload =>
    simp only [Instr.wellFormed, Bool.and_eq_true, Bool.not_eq_true', List.isEmpty_eq_false_iff] at hwf
    obtain ⟨⟨⟨hdst, hsrc⟩, hpayload⟩, hne⟩ := hwf
    exact decode_encode_of_body rfl (by simp only [List.all_cons, hdst, hsrc, hpayload, plain_opcodes, Bool.and_self])
      (decodeBody_freqReport dst src hne)
  | ack dst src extra => exact decode_encode_of_body rfl (by simpa [Instr.wellFormed, and_assoc] using hwf) rfl
  | nak dst src extra => exact decode_encode_of_body rfl (by simpa [Instr.wellFormed, and_assoc] using hwf) rfl
  | setTimeHM dst src sub op hh mm =>
    simp only [Instr.wellFormed, Bool.and_eq_true] at hwf
    obtain ⟨⟨⟨⟨⟨hdst, hsrc⟩, hsub⟩, hop⟩, hhh⟩, hmm⟩ := hwf
    exact decode_encode_of_body rfl (by simp [*, plain_of_isBcd]) (decodeExt_setTimeHM dst src sub op hhh hmm)
  | setTimeHMS dst src sub op hh mm ss =>
    simp only [Instr.wellFormed, Bool.and_eq_true] at hwf
    obtain ⟨⟨⟨⟨⟨⟨hdst, hsrc⟩, hsub⟩, hop⟩, hhh⟩, hmm⟩, hss⟩ := hwf
    exact decode_encode_of_body rfl (by simp [*, plain_of_isBcd]) (decodeExt_setTimeHMS dst src sub op hhh hmm hss)
  | setDate dst src sub op yyHi yyLo mm dd =>
    simp only [Instr.wellFormed, Bool.and_eq_true] at hwf
    obtain ⟨⟨⟨⟨⟨⟨⟨hdst, hsrc⟩, hsub⟩, hop⟩, hhi⟩, hlo⟩, hmm⟩, hdd⟩ := hwf
    exact decode_encode_of_body rfl (by simp [*, plain_of_isBcd]) (decodeExt_setDate dst src sub op hhi hlo hmm hdd)
  | other dst src op rest =>
    simp only [Instr.wellFormed, Bool.and_eq_true, Bool.not_eq_true', Bool.and_eq_false_imp, beq_iff_eq] at hwf
    obtain ⟨⟨⟨⟨⟨hdst, hsrc⟩, hop⟩, hrest⟩, hclass⟩, hset⟩ := hwf
    exact decode_encode_of_body rfl (by simp only [List.all_cons, hdst, hsrc, hop, hrest, Bool.and_self])
      (decodeBody_other dst src hclass hset)

/-! ### What decodes is well-formed -/

/-- A date or time body, or an OTHER whose body is none (R148, R149, R152). -/
theorem decodeExt_wellFormed {dst src : Byte} {rest : List Byte} (hdst : plain dst = true) (hsrc : plain src = true)
    (hrest : rest.all plain = true) : (decodeExt dst src rest).wellFormed = true := by
  cases htail : isSetTail rest with
  | false =>
    rw [decodeExt_of_not_setTail dst src htail]
    simp [Instr.wellFormed, hdst, hsrc, hrest, htail, isClassOpcode_opcExt1]
  | true =>
    match rest, htail with
    | [e, sub, op, hh, mm], htail =>
      obtain ⟨⟨rfl, hhh⟩, hmm⟩ : (e = Config.opcExt2 ∧ isBcd hh = true) ∧ isBcd mm = true := by simpa [isSetTail] using htail
      rw [decodeExt_setTimeHM dst src sub op hhh hmm]
      simp_all [Instr.wellFormed]
    | [e, sub, op, hh, mm, ss], htail =>
      obtain ⟨⟨⟨rfl, hhh⟩, hmm⟩, hss⟩ : ((e = Config.opcExt2 ∧ isBcd hh = true) ∧ isBcd mm = true) ∧ isBcd ss = true := by
        simpa [isSetTail] using htail
      rw [decodeExt_setTimeHMS dst src sub op hhh hmm hss]
      simp_all [Instr.wellFormed]
    | [e, sub, op, yyHi, yyLo, mm, dd], htail =>
      obtain ⟨⟨⟨⟨rfl, hhi⟩, hlo⟩, hmm⟩, hdd⟩ : (((e = Config.opcExt2 ∧ isBcd yyHi = true) ∧ isBcd yyLo = true) ∧
          isBcd mm = true) ∧ isBcd dd = true := by simpa [isSetTail] using htail
      rw [decodeExt_setDate dst src sub op hhi hlo hmm hdd]
      simp_all [Instr.wellFormed]

theorem decodeBody_wellFormed {dst src : Byte} {body : List Byte} (hdst : plain dst = true) (hsrc : plain src = true)
    (hbody : body.all plain = true) : (decodeBody dst src body).wellFormed = true := by
  cases body with
  | nil => simp [decodeBody, Instr.wellFormed, hdst, hsrc]
  | cons op rest =>
    obtain ⟨hop, hrest⟩ : plain op = true ∧ rest.all plain = true := by simpa only [List.all_cons, Bool.and_eq_true] using hbody
    by_cases hclass : isClassOpcode op = true
    · have hop : (op = Config.opcFreq ∨ op = Config.opcAck) ∨ op = Config.opcNak := by simpa [isClassOpcode] using hclass
      rcases hop with (rfl | rfl) | rfl
      · cases rest with
        | nil => simp [decodeBody, Instr.wellFormed, hdst, hsrc]
        | cons p ps => simpa [decodeBody, Instr.wellFormed, hdst, hsrc] using hrest
      · show (Instr.ack dst src rest).wellFormed = true
        simp only [Instr.wellFormed, hdst, hsrc, hrest, Bool.and_self]
      · show (Instr.nak dst src rest).wellFormed = true
        simp only [Instr.wellFormed, hdst, hsrc, hrest, Bool.and_self]
    by_cases hext : op = Config.opcExt1
    · rw [hext, decodeBody_ext]
      exact decodeExt_wellFormed hdst hsrc hrest
    · rw [decodeBody_other dst src (by simpa using hclass) fun h => absurd h hext]
      simp [Instr.wellFormed, hdst, hsrc, hop, hrest, hclass, hext]

theorem decodeSpanInstr_wellFormed {span : List Byte} (hspan : span.all plain = true) :
    (decodeSpanInstr span).wellFormed = true := by
  match span, hspan with
  | [], _ => rfl
  | [x], hspan => simpa [decodeSpanInstr, Instr.wellFormed] using hspan
  | dst :: src :: body, hspan =>
    obtain ⟨hdst, hsrc, hbody⟩ : plain dst = true ∧ plain src = true ∧ body.all plain = true := by
      simpa only [List.all_cons, Bool.and_eq_true] using hspan
    exact decodeBody_wellFormed hdst hsrc hbody

/-- Settles O8: only a span without a terminator decodes, and the bytes of the decoded frame are the received ones. -/
theorem decodedFrameEncodesBack : Obligations.DecodedFrameEncodesBack := by
  intro bytes i h
  obtain ⟨span, hspan, rfl⟩ := exists_span_of_decodeWire h
  refine ⟨decodeSpanInstr_wellFormed hspan, ?_⟩
  rw [encode_of_isFrame (Machine.isFrame_of_decodeWire h), Machine.decodeWire_wireBytes h]

/-- Settles O10: each sample is the encoding of the well-formed instruction it stands for. -/
theorem sampleFramesDecode : Obligations.SampleFramesDecode :=
  ⟨decodeOfEncodeIsIdentity (.freqQuery 0x5A 0xE0) (by decide),
    decodeOfEncodeIsIdentity (.freqReport 0xE0 0x5A [0x00, 0x00, 0x10, 0x14, 0x00]) (by decide),
    decodeOfEncodeIsIdentity (.setDate 0x5A 0xE0 0x00 0x94 0x20 0x24 0x04 0x13) (by decide),
    decodeOfEncodeIsIdentity (.ack 0xE0 0x5A []) (by decide),
    decodeOfEncodeIsIdentity (.nak 0xE0 0x5A []) (by decide),
    decodeOfEncodeIsIdentity (.undersized none) (by decide)⟩

end Sys2Proof
end

section
/-! What every instruction and every step answers, the reserved codes, a SEND that meets no delay. -/

namespace Sys2Proof.Machine

/-! ### Instructions and steps -/

/-- No instruction stops the block (R67, R190, R209). -/
theorem exec_answers_next (i : Instr) (s : State) : ∃ t, exec i s = .next t := by
  cases i <;> exact ⟨_, rfl⟩

/-- Settles O6: with no stimulus, with an instruction and with any other stimulus. -/
theorem everyStepAnswersNext : Obligations.EveryStepAnswersNext := by
  intro s
  cases hinbox : s.inbox with
  | nil => exact ⟨s, step_of_inbox_nil hinbox⟩
  | cons e es =>
    cases hfetch : fetch e with
    | none => exact ⟨_, step_of_fetch_none hinbox hfetch⟩
    | some i =>
      rw [step_of_fetch_some hinbox hfetch]
      exact exec_answers_next i _

/-- Bit 2 of a word is set exactly for the codes 4 to 7. -/
theorem getLsbD_two_iff (w : Word) : w.getLsbD 2 = true ↔ 4 ≤ w.toNat % 8 := by
  rw [BitVec.getLsbD, Nat.testBit_eq_decide_div_mod_eq, decide_eq_true_eq]
  omega

/-- The decoder reads a reserved code from bit 2 alone (R70). -/
theorem decodeCmd_reserved_iff (w : Word) : (∃ lo, decodeCmd w = .cmdReserved lo) ↔ w.getLsbD 2 = true := by
  cases hbit : w.getLsbD 2 with
  | true => exact iff_of_true ⟨w.extractLsb' 0 2, by rw [decodeCmd, if_pos hbit]⟩ rfl
  | false =>
    refine iff_of_false (fun ⟨lo, h⟩ => ?_) Bool.false_ne_true
    rw [decodeCmd, hbit, if_neg Bool.false_ne_true] at h
    split_ifs at h

/-- Settles O16. -/
theorem reservedCodeSetsCmderrOnly : Obligations.ReservedCodeSetsCmderrOnly := by
  refine ⟨fun w => ?_, fun _ _ => rfl⟩
  rw [← getLsbD_two_iff, ← decodeCmd_reserved_iff]
  simp only [decode, Except.ok.injEq]

/-! ### A SEND without delays -/

/-- Settles O21: O22 with nothing but acceptances among the stimuli, which bring no byte and let no tick pass. -/
theorem sendPutsFrameAndEndsSent : Obligations.SendPutsFrameAndEndsSent := by
  intro s rest hbusy hprompt hfits hinbox
  have hsplit : s.inbox = List.replicate (s.txLen + 4) Stimulus.txReady ++ .txReady :: rest := by
    rw [hinbox, List.replicate_succ', List.append_assoc, List.singleton_append]
  have htransport : ∀ e ∈ List.replicate (s.txLen + 4) Stimulus.txReady, e.isTransport = true := by
    intro e he
    rw [List.eq_of_mem_replicate he]
    rfl
  rw [sendToleratesEveryDelay.1 s _ rest hbusy hprompt hfits htransport List.count_replicate_self hsplit]
  simp [List.countP_replicate, Stimulus.isTick, Stimulus.bytes]

end Sys2Proof.Machine
end

section
/-! A host program against the machine (R72, R73, R178): writes to an idle block, reads, LOADTX and a whole session phase. -/

namespace Sys2Proof.Machine

/-! ### Writes to an idle block -/

theorem writeReg_inbox (r : Reg) (d : Word) (s : State) : (writeReg r d s).inbox = s.inbox := by cases r <;> rfl

theorem hostAccess_write_of_idle {n : RegNum} {d : Word} {s : State} {r : Reg} (hn : n ≠ RegNum.cmd)
    (hbusy : s.status.busy = false) (hreg : Reg.ofNum s.bmax n = r) : hostAccess (.write n d) s = writeReg r d s := by
  rw [hostAccess_write n d s hn, hostWrite, hbusy, if_neg Bool.false_ne_true, hreg, ← writeReg_inbox r d s]

/-- `TX_LEN` holds every length up to `BMAX` (R14). -/
theorem lt_two_pow_lenWidth {n bmax : Nat} (h : n ≤ bmax) : n < 2 ^ lenWidth bmax := by
  unfold lenWidth
  split
  case isTrue hsmall => exact (h.trans hsmall).trans_lt (by decide)
  case isFalse =>
    calc n ≤ bmax := h
      _ < 2 ^ (bmax.log2 + 1) := Nat.lt_log2_self
      _ ≤ _ := Nat.pow_le_pow_right two_pos (Nat.le_add_right _ _)

/-- A register narrower than the data word gets back the value it was read from. -/
theorem setWidth_setWidth_32 {n : Nat} (x : BitVec n) (hn : n ≤ 32) : (x.setWidth 32).setWidth n = x := by
  rw [BitVec.setWidth_setWidth_of_le _ hn, BitVec.setWidth_eq]

theorem writeReg_txTo (b : Byte) (s : State) : writeReg .txTo (b.setWidth 32) s = { s with txTo := b } := by
  rw [writeReg, setWidth_setWidth_32 b (by decide)]

theorem writeReg_txFrom (b : Byte) (s : State) : writeReg .txFrom (b.setWidth 32) s = { s with txFrom := b } := by
  rw [writeReg, setWidth_setWidth_32 b (by decide)]

theorem writeReg_expect (e : BitVec 3) (s : State) : writeReg .expect (e.setWidth 32) s = { s with expect := e } := by
  rw [writeReg, setWidth_setWidth_32 e (by decide)]

theorem writeReg_txBody (i : Nat) (b : Byte) (s : State) :
    writeReg (.txBody i) (b.setWidth 32) s = { s with txBody := s.txBody.write i b } := by
  rw [writeReg, setWidth_setWidth_32 b (by decide)]

theorem writeReg_txLen_of_fits {n : Nat} {s : State} (hfits : n ≤ s.bmax) (hword : n < 2 ^ 32) :
    writeReg .txLen (BitVec.ofNat 32 n) s = { s with txLen := n } := by
  rw [writeReg, BitVec.toNat_ofNat, Nat.mod_eq_of_lt hword, Nat.mod_eq_of_lt (lt_two_pow_lenWidth hfits)]

section
variable {s : State} {rest : List Stmt} {w : Word} {rds : List Word} {k : Nat}

/-! ### The statements of a host program, one by one (R72) -/

/-- `WR` to an idle block (R13(c)). -/
theorem hostRun_wr {n : RegNum} {d : Word} {r : Reg} {t : State} (hn : n ≠ RegNum.cmd) (hbusy : s.status.busy = false)
    (hreg : Reg.ofNum s.bmax n = r) (hwrite : writeReg r d s = t) :
    hostRun (k + 1) ⟨s, .wr n d :: rest, w, rds⟩ = hostRun k ⟨t, rest, w, rds⟩ := by
  rw [← hwrite, ← hostAccess_write_of_idle hn hbusy hreg]
  rfl

/-- `RD` of any register but `RESULT` (R13(a)). -/
theorem hostRun_rd {n : RegNum} {r : Reg} (hn : n ≠ ⟨0, 9⟩) (hreg : Reg.ofNum s.bmax n = r) :
    hostRun (k + 1) ⟨s, .rd n :: rest, w, rds⟩ =
      hostRun k ⟨{ s with hRdata := readValue r s, readCount := s.readCount + 1 }, rest, w, rds ++ [readValue r s]⟩ := by
  rw [hostRun, ← hreg]
  simp only [hostStep, hostAccess_read, if_neg hn]

/-- `RD RESULT`, whose word the host keeps (R23, R178). -/
theorem hostRun_rd_result :
    hostRun (k + 1) ⟨s, .rd ⟨0, 9⟩ :: rest, w, rds⟩ =
      hostRun k ⟨{ s with hRdata := s.result.word, readCount := s.readCount + 1 }, rest, s.result.word,
        rds ++ [s.result.word]⟩ := rfl

/-- The reads of the result frame registers come next only for some outcomes (R178). -/
theorem hostRun_rdFrame :
    hostRun (k + 1) ⟨s, .rdFrame :: rest, w, rds⟩ =
      hostRun k ⟨s, (if resultHasFrame w then frameReads else []) ++ rest, w, rds⟩ := rfl

/-- As many elements of `RES_BODY` are read as the word before says. -/
theorem hostRun_rdBody {n : Nat} (hword : n < 2 ^ 32) :
    hostRun (k + 1) ⟨s, .rdBody :: rest, w, rds ++ [BitVec.ofNat 32 n]⟩ =
      hostRun k ⟨s, bodyReads 0 n ++ rest, w, rds ++ [BitVec.ofNat 32 n]⟩ := by
  simp only [hostRun, hostStep, List.getLast?_concat, Option.getD_some, BitVec.toNat_ofNat, Nat.mod_eq_of_lt hword]

/-! ### LOADTX and TRANSACT (R73) -/

/-- The body elements of LOADTX (R73). -/
theorem hostRun_loadBody {bs : List Byte} {i : Nat} (hbusy : s.status.busy = false) (hfits : i + bs.length ≤ s.bmax) :
    hostRun (k + bs.length) ⟨s, loadBody i bs ++ rest, w, rds⟩ =
      hostRun k ⟨{ s with txBody := s.txBody.writeList i bs }, rest, w, rds⟩ := by
  induction bs generalizing i s with
  | nil => rfl
  | cons b bs ih =>
    rw [List.length_cons] at hfits
    rw [List.length_cons, loadBody, List.cons_append, ← Nat.add_assoc,
      hostRun_wr (RegNum.ne_cmd_of_bank one_ne_zero i) hbusy (ofNum_bank1 (by omega)) (writeReg_txBody i b s)]
    exact ih (s := { s with txBody := s.txBody.write i b }) hbusy (by simp only [State.bmax] at hfits ⊢; omega)

/-- LOADTX (R73) leaves a frame whose body fits in the transmit registers. -/
theorem hostRun_loadTx {dst src : Byte} {body : List Byte} (hbusy : s.status.busy = false) (hfits : body.length ≤ s.bmax)
    (hword : body.length < 2 ^ 32) :
    hostRun (k + body.length + 3) ⟨s, loadTx dst src body ++ rest, w, rds⟩ =
      hostRun k ⟨{ s with txTo := dst, txFrom := src, txLen := body.length, txBody := s.txBody.writeList 0 body },
        rest, w, rds⟩ := by
  simp only [loadTx, List.cons_append, List.nil_append]
  refine Eq.trans (hostRun_wr (by decide) hbusy rfl (writeReg_txTo dst s)) ?_
  refine Eq.trans (hostRun_wr (by decide) hbusy rfl (writeReg_txFrom src _)) ?_
  refine Eq.trans (hostRun_wr (by decide) hbusy rfl (writeReg_txLen_of_fits hfits hword)) ?_
  exact hostRun_loadBody hbusy (by rwa [Nat.zero_add])

/-- The writes of a session phase (R178): the read timeout, then the operands of TRANSACT. -/
theorem hostRun_sessionPhase {p : SessionInput} {r : Request} (hbusy : s.status.busy = false) (hfits : r.body.length ≤ s.bmax)
    (hword : r.body.length < 2 ^ 32) :
    hostRun (r.body.length + 6) ⟨s, sessionPhase p r ++ rest, w, rds⟩ =
      ⟨{ s with
          rdtmo := p.readTimeout, txTo := r.dst, txFrom := r.src, txLen := r.body.length
          txBody := s.txBody.writeList 0 r.body, expect := r.expect, deadline := r.deadline },
        executeAndRead ++ .rdFrame :: rest, w, rds⟩ := by
  rw [show r.body.length + 6 = 2 + r.body.length + 3 + 1 by omega]
  simp only [sessionPhase, transact, List.append_assoc, List.cons_append, List.nil_append]
  refine Eq.trans (hostRun_wr (r := .rdtmo) (by decide) hbusy rfl rfl) ?_
  refine Eq.trans (hostRun_loadTx hbusy hfits hword) ?_
  refine Eq.trans (hostRun_wr (by decide) hbusy rfl (writeReg_expect r.expect _)) ?_
  exact hostRun_wr (k := 0) (r := .deadline) (by decide) hbusy rfl rfl

/-! ### WAIT -/

theorem status_word_done (f : Status) : f.word.getLsbD 1 = f.done := by
  obtain ⟨busy, done, uxseen, ovf, cmderr⟩ := f
  revert busy done uxseen ovf cmderr
  decide

/-- `WAIT` reads `STATUS` and goes on at DONE (R72). -/
theorem hostStep_wait :
    hostStep ⟨s, .wait :: rest, w, rds⟩ =
      if s.status.done = true then
        ⟨{ s with hRdata := s.status.word, readCount := s.readCount + 1 }, rest, w, rds⟩
      else ⟨nextState { s with hRdata := s.status.word, readCount := s.readCount + 1 }, .wait :: rest, w, rds⟩ := by
  have hread : readValue (Reg.ofNum s.bmax ⟨0, 2⟩) s = s.status.word := rfl
  simp only [hostStep, hostAccess_read, hread, status_word_done]

/-! ### RESULT and the result frame registers -/

/-- A word read from `RESULT` tells the outcome (R23). -/
theorem kindOfResult_word (r : ResultReg) : kindOfResult r.word = some r.kind := by
  have hkind := r.kind.code.isLt
  have hcode : (r.word.extractLsb' 0 4).toNat = r.kind.code.toNat := by
    rw [BitVec.extractLsb'_toNat, toNat_result_word]
    split <;> omega
  rw [kindOfResult, hcode]
  cases r.kind <;> rfl

theorem resultHasFrame_word_iff (r : ResultReg) : resultHasFrame r.word = true ↔ r.kind = .data ∨ r.kind = .unexpected := by
  simp [resultHasFrame, kindOfResult_word]

/-- An element of the frame in the result frame registers reads as its byte (R24). -/
theorem readValue_resBody {i : Nat} {b : Byte} (hvalid : s.result.valid = true) (hlen : i < s.resLen)
    (hread : s.resBody.read? i = some b) : readValue (.resBody i) s = b.setWidth 32 := by
  simp only [readValue, hvalid, hlen, and_self, if_true, hread, Option.getD_some]

/-- The reads of `n` elements of `RES_BODY` from `i` on return their bytes, in order (R24, R178). -/
theorem hostRun_bodyReads {n i : Nat} (free : Nat → Byte) (hvalid : s.result.valid = true) (hlen : i + n ≤ s.resLen)
    (hfits : s.resLen ≤ s.bmax) (hfilled : Memory.filled s.resBody s.resLen = true) :
    ∃ t, hostRun n ⟨s, bodyReads i n ++ rest, w, rds⟩ =
        ⟨t, rest, w, rds ++ (s.resBody.slice free i n).map (fun b => b.setWidth 32)⟩ ∧
      t = { s with hRdata := t.hRdata, readCount := s.readCount + n } := by
  induction n generalizing i s rds with
  | zero => exact ⟨s, by simp [hostRun, bodyReads, Memory.slice], rfl⟩
  | succ n ih =>
    obtain ⟨b, hb⟩ := Option.isSome_iff_exists.1 ((Memory.filled_iff _ _).1 hfilled i (by omega))
    obtain ⟨t, hrun, ht⟩ := ih (s := { s with hRdata := b.setWidth 32, readCount := s.readCount + 1 })
      (rds := rds ++ [b.setWidth 32]) hvalid (i := i + 1) (by simp only; omega) hfits hfilled
    refine ⟨t, ?_, ?_⟩
    · rw [bodyReads, List.cons_append, hostRun_rd (r := .resBody i) (by simp) (ofNum_bank2 (by omega)),
        readValue_resBody hvalid (by omega) hb, hrun]
      simp [Memory.slice, hb]
    · rw [ht]
      simp only [Nat.add_assoc, Nat.add_comm 1]

/-- The reads of the result frame registers after DATA or UNEXPECTED (R24, R178). -/
theorem hostRun_frameReads (hvalid : s.result.valid = true) (hfits : s.resLen ≤ s.bmax) (hword : s.resLen < 2 ^ 32)
    (hfilled : Memory.filled s.resBody s.resLen = true) (free : Nat → Byte) :
    ∃ t, hostRun (s.resLen + 4) ⟨s, frameReads ++ rest, w, rds⟩ =
        ⟨t, rest, w, rds ++ ([s.resTo.setWidth 32, s.resFrom.setWidth 32, BitVec.ofNat 32 s.resLen] ++
          (s.resBody.slice free 0 s.resLen).map (fun b => b.setWidth 32))⟩ ∧
      t = { s with hRdata := t.hRdata, readCount := s.readCount + s.resLen + 3 } := by
  have hrun : hostRun (s.resLen + 4) ⟨s, frameReads ++ rest, w, rds⟩ =
      hostRun s.resLen ⟨{ s with hRdata := BitVec.ofNat 32 s.resLen, readCount := s.readCount + 1 + 1 + 1 },
        bodyReads 0 s.resLen ++ rest, w,
        rds ++ [s.resTo.setWidth 32] ++ [s.resFrom.setWidth 32] ++ [BitVec.ofNat 32 s.resLen]⟩ := by
    simp only [frameReads, List.cons_append, List.nil_append]
    refine Eq.trans (hostRun_rd (r := .resTo) (by decide) rfl) ?_
    refine Eq.trans (hostRun_rd (r := .resFrom) (by decide) rfl) ?_
    refine Eq.trans (hostRun_rd (r := .resLen) (by decide) rfl) ?_
    exact hostRun_rdBody hword
  rw [hrun]
  obtain ⟨t, hbody, ht⟩ := hostRun_bodyReads (n := s.resLen) (i := 0) free
    (s := { s with hRdata := BitVec.ofNat 32 s.resLen, readCount := s.readCount + 1 + 1 + 1 })
    hvalid (Nat.zero_add _).le hfits hfilled
  refine ⟨t, ?_, ?_⟩
  · rw [hbody]
    simp only [List.append_assoc, List.cons_append, List.nil_append]
  · rw [ht]
    simp only [Nat.add_assoc, Nat.add_comm 3]

end

/-- Settles O60: the writes, `WAIT`, and `RD RESULT` with what it makes the host read. -/
theorem sessionPhaseLoadsTheRequest : Obligations.SessionPhaseLoadsTheRequest := by
  refine ⟨?writes, ?wait, ?readsFrame, ?readsNothing⟩
  case writes =>
    intro s p r more w rds hbusy hfits hword
    exact ⟨hostRun_sessionPhase hbusy hfits hword, Memory.slice_writeList s.txBody _ r.body⟩
  case wait => exact fun s more w rds => hostStep_wait
  case readsFrame =>
    intro s more w rds hkind hvalid hfits hword hfilled
    have hframe : resultHasFrame s.result.word = true := (resultHasFrame_word_iff s.result).2 hkind
    rw [hostRun_rd_result, hostRun_rdFrame, if_pos hframe]
    obtain ⟨t, hrun, ht⟩ := hostRun_frameReads (rds := rds ++ [s.result.word]) (rest := more) (w := s.result.word)
      (s := { s with hRdata := s.result.word, readCount := s.readCount + 1 }) hvalid hfits hword hfilled
      (Config.unspecifiedRead s.readCount 2)
    refine ⟨t, ?_, ?_⟩
    · rw [hrun]
      simp only [State.resBodyBytes, List.append_assoc, List.cons_append, List.nil_append]
    · rw [ht]
      simp only [Nat.add_assoc, Nat.add_comm 1]
  case readsNothing =>
    intro s more w rds hdata hunexpected
    have hframe : resultHasFrame s.result.word = false := by
      rw [← Bool.not_eq_true, resultHasFrame_word_iff]
      exact not_or.2 ⟨hdata, hunexpected⟩
    rw [hostRun_rd_result, hostRun_rdFrame, hframe]
    rfl

end Sys2Proof.Machine
end

section
/-! The codec on any bytes (R82, R110 to R113). -/

namespace Sys2Proof.Machine

/-! ### Frames as delimited spans -/

/-- An encoded frame is the span of its two addresses and its body between the markers (R80). -/
theorem encodeFrame_eq_delimited (dst src : Byte) (body : List Byte) :
    encodeFrame dst src body = Config.preamble :: Config.preamble :: ((dst :: src :: body) ++ [Config.term]) := rfl

theorem decodeSpan_eq_some_iff {span : List Byte} {f : Frame} :
    decodeSpan span = some f ↔ span = f.dst :: f.src :: f.body := by
  match span with
  | [] => simp [decodeSpan]
  | [_] => simp [decodeSpan]
  | dst :: src :: body =>
    obtain ⟨fdst, fsrc, fbody⟩ := f
    simp [decodeSpan]

theorem decodeSpan_eq_none_iff (span : List Byte) : decodeSpan span = none ↔ span.length < 2 := by
  match span with
  | [] => simp [decodeSpan]
  | [_] => simp [decodeSpan]
  | _ :: _ :: _ => simp [decodeSpan]

/-- Only the first two bytes and the last are markers, whatever the span holds (R112). -/
theorem decodeWhole_delimited (span : List Byte) :
    decodeWhole (Config.preamble :: Config.preamble :: (span ++ [Config.term])) = decodeSpan span := by
  simp only [decodeWhole, List.getLast?_concat, List.dropLast_concat, and_self, if_true]

/-- Whatever decodes to a frame is a delimited span (R112). -/
theorem exists_span_of_decodeWhole {w : List Byte} {f : Frame} (h : decodeWhole w = some f) :
    ∃ span : List Byte, w = Config.preamble :: Config.preamble :: (span ++ [Config.term]) ∧ decodeSpan span = some f := by
  match w with
  | [] => cases h
  | [_] => cases h
  | p :: q :: rest =>
    simp only [decodeWhole] at h
    split_ifs at h with hmarkers
    obtain ⟨rfl, rfl, hlast⟩ := hmarkers
    exact ⟨rest.dropLast, by rw [List.dropLast_append_getLast? _ hlast], h⟩

/-- Settles O12: a frame is a delimited span both ways, and a span of two bytes or more is a frame. -/
theorem codecRoundTrips : Obligations.CodecRoundTrips := by
  refine ⟨?decodeEncode, ?encodeDecode, decodeSpan_eq_none_iff⟩
  case decodeEncode =>
    intro dst src body
    rw [encodeFrame_eq_delimited, decodeWhole_delimited, decodeSpan_eq_some_iff]
  case encodeDecode =>
    intro w f h
    obtain ⟨span, rfl, hspan⟩ := exists_span_of_decodeWhole h
    rw [encodeFrame_eq_delimited, decodeSpan_eq_some_iff.1 hspan]

/-! ### The bytes of an encoded frame -/

theorem length_encodeFrame (dst src : Byte) (body : List Byte) : (encodeFrame dst src body).length = body.length + 5 := by
  simp [encodeFrame]

theorem getLast?_encodeFrame (dst src : Byte) (body : List Byte) :
    (encodeFrame dst src body).getLast? = some Config.term := by
  rw [encodeFrame_eq_delimited, ← List.cons_append, ← List.cons_append, List.getLast?_concat]

/-- Settles O11: the bytes before the body stand at fixed places, and the terminator is what the body is followed by. -/
theorem encodedFrameLengthAndMarkers : Obligations.EncodedFrameLengthAndMarkers :=
  fun dst src body => ⟨length_encodeFrame dst src body, rfl, rfl, getLast?_encodeFrame dst src body, rfl, rfl⟩

end Sys2Proof.Machine
end

section
/-! The host commands that change no state or are refused (R85, R86). -/

namespace Sys2Proof.Machine

/-! ### NOP -/

/-- A word with the code 000 is `CMD` value 0 as far as the decoder reads it (R69). -/
theorem decodeCmd_of_code_zero {w : Word} (hcode : w.toNat % 8 = 0) : decodeCmd w = .nop := by
  have hlow : w.extractLsb' 0 3 = (0 : Word).extractLsb' 0 3 := BitVec.eq_of_toNat_eq (by simpa using hcode)
  rw [commandCodeIsLowThreeBits.1 w 0 hlow, commandCodeIsLowThreeBits.2.1]

theorem exec_nop_of_idle {s : State} (hbusy : s.status.busy = false) : exec .nop s = .next s := by
  simp [exec, execNop, hbusy]

theorem exec_nop_of_busy {s : State} (hbusy : s.status.busy = true) : exec .nop s = .next (cmdError s) := by
  simp [exec, execNop, hbusy]

/-- Settles O15. -/
theorem nopChangesNothing : Obligations.NopChangesNothing :=
  ⟨fun _ hcode => congrArg Except.ok (decodeCmd_of_code_zero hcode), fun _ => ⟨exec_nop_of_idle, exec_nop_of_busy⟩⟩

/-! ### A transmission that is too long -/

theorem sendable_of_oversize {s : State} (hsize : s.bmax < s.txLen) : s.sendable = false := by
  rw [← Bool.not_eq_true, sendable_iff]
  exact fun ⟨_, hfits⟩ => Nat.not_le_of_gt hsize hfits

theorem exec_send_of_not_sendable {s : State} (hsend : s.sendable = false) : exec .send s = .next (cmdError s) := by
  simp [exec, execSend, hsend]

theorem exec_xact_of_not_sendable {s : State} (hsend : s.sendable = false) : exec .xact s = .next (cmdError s) := by
  simp [exec, execXact, hsend]

/-- Settles O17: `sendable` is the check of R85, which SEND and XACT share. -/
theorem oversizeTransmitRefused : Obligations.OversizeTransmitRefused := by
  intro s _ hsize
  have hsend := sendable_of_oversize hsize
  exact ⟨exec_send_of_not_sendable hsend, exec_xact_of_not_sendable hsend⟩

end Sys2Proof.Machine
end

section
/-! The reader byte by byte, and against the pseudocode of R108: on any bytes it does what `readFrame` says. -/

namespace Sys2Proof.Machine

/-! ### The pseudocode on bytes in two parts -/

/-- What `ReadFrame()` has made of some bytes, and then of the bytes `ys` after them. -/
def ReadTrace.andThen (lmax : Nat) (ys : List Byte) : ReadTrace → ReadTrace
  | .ended r ovf rest => .ended r ovf (rest ++ ys)
  | .pending rs acc => readFrom lmax rs acc ys

theorem readFrom_append (lmax : Nat) (rs : ReaderState) (acc xs ys : List Byte) :
    readFrom lmax rs acc (xs ++ ys) = (readFrom lmax rs acc xs).andThen lmax ys := by
  induction xs generalizing rs acc with
  | nil => cases rs <;> rfl
  | cons b xs ih =>
    cases rs with
    | hunt1 => exact ih _ acc
    | hunt2 => exact ih _ acc
    | accum =>
      simp only [List.cons_append, readFrom]
      split
      · rfl
      split
      · exact ih _ _
      · rfl

/-- Where `ReadFrame()` ends within the bytes `ys`, it is still reading at their start. -/
theorem readFrom_pending_of_ended {lmax : Nat} {rs : ReaderState} {acc xs ys rest : List Byte} {r : ReadEnd} {ovf : Bool}
    (h : readFrom lmax rs acc (xs ++ ys) = .ended r ovf rest) (hlt : rest.length < ys.length) :
    ∃ rs' acc', readFrom lmax rs acc xs = .pending rs' acc' ∧ readFrom lmax rs' acc' ys = .ended r ovf rest := by
  rw [readFrom_append] at h
  cases hxs : readFrom lmax rs acc xs with
  | pending rs' acc' => exact ⟨rs', acc', rfl, by rwa [hxs] at h⟩
  | ended r' ovf' rest' =>
    rw [hxs] at h
    obtain ⟨-, -, rfl⟩ := ReadTrace.ended.inj h
    simp only [List.length_append] at hlt
    omega

/-! ### The pseudocode on noise and on a frame -/

theorem spanEnd_eq_frame_iff {span : List Byte} {f : Frame} : spanEnd span = .frame f ↔ span = f.dst :: f.src :: f.body := by
  rw [← decodeSpan_eq_some_iff, spanEnd]
  cases decodeSpan span <;> simp

theorem spanEnd_ne_timeout (span : List Byte) : spanEnd span ≠ .timeout := by
  rw [spanEnd]
  cases decodeSpan span <;> nofun

/-- Noise that makes no preamble, not even with an `FE` after it, is discarded (R92, R96, R103). -/
theorem readFrom_noise (lmax : Nat) (acc rest : List Byte) : ∀ z : List Byte, noPreamblePair (z ++ [Config.preamble]) = true →
    readFrom lmax .hunt1 acc (z ++ rest) = readFrom lmax .hunt1 acc rest
  | [], _ => rfl
  | [b], h => by
    have hb : b ≠ Config.preamble := fun hb => ((noPreamblePair_cons_cons b _ []).1 h).1 ⟨hb, rfl⟩
    simp [readFrom, hb]
  | b :: c :: z, h => by
    obtain ⟨hbc, htail⟩ := (noPreamblePair_cons_cons b c (z ++ [Config.preamble])).1 h
    by_cases hb : b = Config.preamble
    · have hc : c ≠ Config.preamble := fun hc => hbc ⟨hb, hc⟩
      have hz : noPreamblePair (z ++ [Config.preamble]) = true := by
        cases z with
        | nil => rfl
        | cons d z => exact ((noPreamblePair_cons_cons c d (z ++ [Config.preamble])).1 htail).2
      simp only [List.cons_append, readFrom, hb, hc, if_true, if_false, readFrom_noise lmax acc rest z hz]
    · simp only [List.cons_append, readFrom, hb, if_false]
      exact readFrom_noise lmax acc rest (c :: z) htail

/-- Bytes that fit are accumulated up to the terminator (R98, R99). -/
theorem readFrom_span {lmax : Nat} {acc span : List Byte} (rest : List Byte) (hplain : span.all plain = true)
    (hfits : acc.length + span.length ≤ lmax) :
    readFrom lmax .accum acc (span ++ Config.term :: rest) = .ended (spanEnd (acc ++ span)) false rest := by
  induction span generalizing acc with
  | nil => simp [readFrom]
  | cons b span ih =>
    simp only [List.all_cons, Bool.and_eq_true, plain_iff] at hplain
    obtain ⟨hb, hspan⟩ := hplain
    simp only [List.length_cons] at hfits
    rw [List.cons_append, readFrom, if_neg hb, if_pos (by omega), ih hspan (by simp; omega), List.append_assoc,
      List.singleton_append]

/-- `ReadFrame()` finds a frame behind noise (R103). -/
theorem readFrame_behind_noise {lmax : Nat} {z : List Byte} {dst src : Byte} {body : List Byte} (left : List Byte)
    (hnoise : noPreamblePair (z ++ [Config.preamble]) = true) (hplain : (dst :: src :: body).all plain = true)
    (hfits : body.length + 2 ≤ lmax) :
    readFrame lmax (z ++ encodeFrame dst src body ++ left) = .ended (.frame ⟨dst, src, body⟩) false left := by
  have hsplit : encodeFrame dst src body ++ left =
      Config.preamble :: Config.preamble :: ((dst :: src :: body) ++ Config.term :: left) := by simp [encodeFrame]
  rw [readFrame, List.append_assoc, readFrom_noise _ _ _ z hnoise, hsplit]
  have hroom : ([] : List Byte).length + (dst :: src :: body).length ≤ lmax := by
    simp only [List.length_cons, List.length_nil]
    omega
  simp only [readFrom, if_true]
  exact readFrom_span left hplain hroom

/-! ### One byte in each step of the reader -/

theorem readByte_hunt1 {s : State} (b : Byte) (hrs : s.rs = .hunt1) :
    readByte b s = { s with rs := if b = Config.preamble then .hunt2 else .hunt1, rtcnt := s.rdtmo } :=
  readByte_noise (.inl hrs)

theorem readByte_hunt2 {s : State} (b : Byte) (hrs : s.rs = .hunt2) :
    readByte b s = { s with rs := if b = Config.preamble then .accum else .hunt1, rtcnt := s.rdtmo } := by
  by_cases hb : b = Config.preamble <;> simp [readByte, hrs, hb, startRead]

theorem readByte_term {s : State} (hrs : s.rs = .accum) : readByte Config.term s = spanComplete s := by
  simp [readByte, hrs]

theorem readByte_store {s : State} {b : Byte} (hrs : s.rs = .accum) (hb : b ≠ Config.term) (hroom : s.blen < s.lmax) :
    readByte b s = startRead (accumulate b s) := by
  simp [readByte, hrs, hb, hroom]

theorem readByte_overflow {s : State} {b : Byte} (hrs : s.rs = .accum) (hb : b ≠ Config.term) (hfull : s.lmax ≤ s.blen) :
    readByte b s = bufferOverflow s := by
  simp [readByte, hrs, hb, Nat.not_lt.2 hfull]

/-- One byte arrives while a byte read is pending and none is held. -/
theorem arrive_byte {s : State} (b : Byte) (hreading : s.reading) (hrxq : s.rxq = []) :
    arrive [b] s = takeBytes [] (readByte b { s with rxq := [b] }) := by
  simp only [arrive, takeHeld, hrxq, List.nil_append]
  exact takeBytes_cons b [] _ hreading

theorem arrive_byte_hunting {s : State} (b : Byte) (hreading : s.reading) (hrs : s.rs ≠ .accum) (hrxq : s.rxq = []) :
    arrive [b] s = readByte b s := by
  have hhunt : s.rs = .hunt1 ∨ s.rs = .hunt2 := by
    cases h : s.rs with
    | hunt1 => exact .inl rfl
    | hunt2 => exact .inr rfl
    | accum => exact absurd h hrs
  rw [arrive_byte b hreading hrxq, takeBytes_nil]
  rcases hhunt with h | h
  · rw [readByte_hunt1 b (s := { s with rxq := [b] }) h, readByte_hunt1 b h, ← hrxq]
  · rw [readByte_hunt2 b (s := { s with rxq := [b] }) h, readByte_hunt2 b h, ← hrxq]

/-- Settles O31. -/
theorem huntStepsLookForTwoPreambles : Obligations.HuntStepsLookForTwoPreambles := by
  refine ⟨?hunt1, ?hunt2, ?oneStep⟩
  case hunt1 =>
    intro s b hrs
    rw [readByte_hunt1 b hrs]
    rfl
  case hunt2 =>
    intro s b hrs
    rw [readByte_hunt2 b hrs]
    rfl
  case oneStep =>
    intro s b es hreading hrs hrxq hinbox
    rw [step_rx hinbox, arrive_byte_hunting b (s := { s with inbox := es }) hreading hrs hrxq]

/-- Settles O32. -/
theorem accumStoresEveryByteButTerminator : Obligations.AccumStoresEveryByteButTerminator := by
  intro s b es hreading hrs hrxq hb hroom hinbox
  have hstep := step_rx hinbox
  rw [arrive_byte b (s := { s with inbox := es }) hreading hrxq,
    readByte_store (s := { s with inbox := es, rxq := [b] }) hrs hb hroom, takeBytes_nil] at hstep
  refine ⟨_, hstep, ?whole, fun i => Memory.read?_write s.buf s.blen i b⟩
  simp only [startRead, accumulate, hrxq]

/-! ### Where the reader stands within an invocation -/

/-- The reader at its step `rs`, `acc` accumulated since the start of the invocation, its next byte read started. -/
def State.standing (s : State) (rs : ReaderState) (acc : List Byte) : State := { s.heard acc with rs := rs }

/-- The state in which an invocation returns `r`, `acc` accumulated: malformed frames are counted, an overflow is flagged. -/
def State.atReturn (s : State) (r : ReadEnd) (ovf : Bool) (acc : List Byte) : State :=
  { s.heard acc with
    malcnt := if r = .malformed then satInc s.malcnt else s.malcnt
    status := { s.status with ovf := s.status.ovf || ovf } }

@[simp] theorem State.standing_span (s : State) (rs : ReaderState) (acc : List Byte) : (s.standing rs acc).span = acc :=
  s.heard_span acc

theorem State.atReturn_frame (s : State) (f : Frame) (acc : List Byte) : s.atReturn (.frame f) false acc = s.heard acc := by
  simp [State.atReturn, State.heard]

theorem Memory.writeList_concat (m : Memory) (a : Nat) (vs : List Byte) (v : Byte) :
    m.writeList a (vs ++ [v]) = (m.writeList a vs).write (a + vs.length) v := by
  induction vs generalizing m a with
  | nil => rfl
  | cons w vs ih =>
    rw [List.cons_append, Memory.writeList, Memory.writeList, ih, List.length_cons, Nat.add_right_comm, Nat.add_assoc]

theorem spanComplete_heard (s : State) (acc : List Byte) :
    spanComplete (s.heard acc) = invocationReturns (spanEnd acc) (s.atReturn (spanEnd acc) false acc) := by
  rw [spanComplete, State.heard_span, spanEnd]
  cases decodeSpan acc with
  | some f => simp only [State.atReturn_frame]
  | none => simp [State.atReturn, countMalformed, State.heard]

/-! ### One byte, from where the reader stands -/

theorem readByte_standing_store {s : State} {b : Byte} {acc : List Byte} (hb : b ≠ Config.term)
    (hroom : acc.length < s.lmax) : readByte b (s.standing .accum acc) = s.standing .accum (acc ++ [b]) := by
  rw [readByte_store (s := s.standing .accum acc) rfl hb hroom]
  simp [startRead, accumulate, State.standing, State.heard, Memory.writeList_concat]

theorem readByte_standing_overflow {s : State} {b : Byte} {acc : List Byte} (hb : b ≠ Config.term)
    (hfull : s.lmax ≤ acc.length) :
    readByte b (s.standing .accum acc) = invocationReturns .malformed (s.atReturn .malformed true acc) := by
  rw [readByte_overflow (s := s.standing .accum acc) rfl hb hfull]
  simp [bufferOverflow, countMalformed, State.standing, State.atReturn, State.heard]

/-! ### The reader does what the pseudocode does -/

/-- `t` is where the block comes to from `s` when `ReadFrame()` makes of the bytes it takes what the trace says: the invocation has
returned and the block goes on with the bytes left, or the reader stands where `ReadFrame()` stands. -/
def ReadTrace.Reached (s t : State) : ReadTrace → Prop
  | .ended r ovf rest => ∃ acc, (ovf = false ∧ r = spanEnd acc ∨ ovf = true ∧ r = .malformed) ∧
      t = takeBytes rest (invocationReturns r (s.atReturn r ovf acc))
  | .pending rs acc => t = ({ s with rxq := [] } : State).standing rs acc

/-- The refinement (R108), from wherever the reader stands. -/
theorem takeBytes_standing_reached (bytes : List Byte) {s : State} (rs : ReaderState) (acc : List Byte) (hreading : s.reading) :
    (readFrom s.lmax rs acc bytes).Reached s (takeBytes bytes (s.standing rs acc)) := by
  induction bytes generalizing rs acc with
  | nil => cases rs <;> rfl
  | cons b bytes ih =>
    rw [takeBytes_cons b bytes (s.standing rs acc) hreading]
    cases rs with
    | hunt1 =>
      rw [readByte_hunt1 b (s := s.standing .hunt1 acc) rfl]
      exact ih _ acc
    | hunt2 =>
      rw [readByte_hunt2 b (s := s.standing .hunt2 acc) rfl]
      exact ih _ acc
    | accum =>
      by_cases hb : b = Config.term
      · subst hb
        rw [readByte_term (s := s.standing .accum acc) rfl, readFrom, if_pos rfl]
        exact ⟨acc, .inl ⟨rfl, rfl⟩, congrArg _ (spanComplete_heard s acc)⟩
      rw [readFrom, if_neg hb]
      by_cases hroom : acc.length < s.lmax
      · rw [readByte_standing_store hb hroom, if_pos hroom]
        exact ih .accum (acc ++ [b])
      · rw [readByte_standing_overflow hb (Nat.not_lt.1 hroom), if_neg hroom]
        exact ⟨acc, .inr ⟨rfl, rfl⟩, rfl⟩

/-! ### What the running command does with a returned invocation -/

theorem rdfInvocationEnd_opst (r : ReadEnd) (s : State) : (rdfInvocationEnd r s).opst = .idle := by cases r <;> rfl

section
variable {s : State} (hlags : s.lags = false)
include hlags

/-- An RDF ends with its invocation, and leaves the rest of the bytes in the transport (R43, R104). -/
theorem takeBytes_returned_rdf (hc : s.curop = .rdf) (r : ReadEnd) (rest : List Byte) :
    takeBytes rest (invocationReturns r s) = { rdfInvocationEnd r s with rxq := rest } := by
  have hend : invocationReturns r s = rdfInvocationEnd r s := by
    simp only [invocationReturns, orLater_now _ _ s hlags, invocationEnd, hc]
  have hidle : ¬ (rdfInvocationEnd r s).reading := fun ⟨hrd, _⟩ => by simp [rdfInvocationEnd_opst] at hrd
  rw [hend, takeBytes_waits _ _ hidle]

/-- An XACT goes on with the bytes left as R127 says. -/
theorem invocationReturns_xact (hc : s.curop = .xact) (r : ReadEnd) : invocationReturns r s = xactInvocationEnd r s := by
  simp only [invocationReturns, orLater_now _ _ s hlags, invocationEnd, hc]

end

/-! ### Bytes that arrive at the start of an invocation -/

section
variable {s : State} {bytes : List Byte} (hfresh : s.readerFresh)
include hfresh

/-- A byte restarts the read, so that from the first one on the reader stands as if its read had just started. -/
theorem arrive_fresh (hbytes : bytes ≠ []) :
    arrive bytes s = takeBytes bytes (({ s with rxq := bytes } : State).standing .hunt1 []) := by
  obtain ⟨hreading, hrs, hblen, hrxq⟩ := hfresh
  obtain ⟨b, bs, rfl⟩ := List.exists_cons_of_ne_nil hbytes
  have hread : readByte b { s with rxq := b :: bs } = readByte b (({ s with rxq := b :: bs } : State).standing .hunt1 []) := by
    rw [readByte_hunt1 b (s := { s with rxq := b :: bs }) hrs, readByte_hunt1 b rfl]
    simp [State.standing, State.heard, Memory.writeList, hblen]
  simp only [arrive, takeHeld, hrxq, List.nil_append]
  rw [takeBytes_cons b bs { s with rxq := b :: bs } hreading, hread]
  exact (takeBytes_cons b bs (({ s with rxq := b :: bs } : State).standing .hunt1 []) hreading).symm

theorem arrive_fresh_ended {r : ReadEnd} {ovf : Bool} {rest : List Byte} (hread : readFrame s.lmax bytes = .ended r ovf rest) :
    ∃ acc, (ovf = false ∧ r = spanEnd acc ∨ ovf = true ∧ r = .malformed) ∧
      arrive bytes s = takeBytes rest (invocationReturns r (({ s with rxq := bytes } : State).atReturn r ovf acc)) := by
  have hbytes : bytes ≠ [] := by rintro rfl; cases hread
  have hreached := takeBytes_standing_reached bytes (s := { s with rxq := bytes }) .hunt1 [] hfresh.1
  rw [← arrive_fresh hfresh hbytes, show readFrom _ .hunt1 [] bytes = .ended r ovf rest from hread] at hreached
  exact hreached

theorem arrive_fresh_pending {rs : ReaderState} {acc : List Byte} (hread : readFrame s.lmax bytes = .pending rs acc) :
    arrive bytes s = { s.standing rs acc with rtcnt := if bytes = [] then s.rtcnt else s.rdtmo } := by
  have ⟨hreading, hrs, hblen, hrxq⟩ := hfresh
  by_cases hbytes : bytes = []
  · subst hbytes
    obtain ⟨rfl, rfl⟩ := ReadTrace.pending.inj hread
    simp [arrive, takeHeld, hrxq, takeBytes_nil, State.standing, State.heard, Memory.writeList, hrs, hblen]
  · have hreached := takeBytes_standing_reached bytes (s := { s with rxq := bytes }) .hunt1 [] hreading
    rw [← arrive_fresh hfresh hbytes, show readFrom _ .hunt1 [] bytes = .pending rs acc from hread] at hreached
    rw [if_neg hbytes, hreached]
    simp only [State.standing, State.heard, hrxq]

end

/-- Settles O33: `Reached` at the start of an invocation, and what RDF and XACT do with a returned one. -/
theorem readerRefinesReadFrame : Obligations.ReaderRefinesReadFrame := by
  refine ⟨?rdf, ?xact⟩
  case rdf =>
    intro s bytes hfresh hlags hc
    cases hread : readFrame s.lmax bytes with
    | pending rs acc =>
      rw [arrive_fresh_pending hfresh hread]
      obtain ⟨⟨ho, -⟩, -, -, hrxq⟩ := hfresh
      exact ⟨hrxq, ho, rfl, fun _ => s.standing_span rs acc, rfl, rfl, rfl⟩
    | ended r ovf rest =>
      obtain ⟨acc, hend, ht⟩ := arrive_fresh_ended hfresh hread
      rw [ht, takeBytes_returned_rdf (s := ({ s with rxq := bytes } : State).atReturn r ovf acc) hlags hc]
      cases r with
      | frame f =>
        obtain ⟨rfl, -⟩ | ⟨-, hr⟩ := hend
        · rw [State.atReturn_frame]
          refine ⟨rfl, rfl, rfl, rfl, ?frame, rfl, rfl⟩
          simp only [State.resFrame, State.resBodyBytes, rdfInvocationEnd, raise_frame_resTo, raise_frame_resFrom,
            raise_frame_resLen, raise_frame_resBody, Memory.slice_writeList]
        · cases hr
      | malformed => exact ⟨rfl, rfl, rfl, rfl, rfl, rfl⟩
      | timeout =>
        obtain ⟨-, hr⟩ | ⟨-, hr⟩ := hend
        · exact spanEnd_ne_timeout acc hr.symm
        · cases hr
  case xact =>
    intro s bytes hfresh hlags hc
    cases hread : readFrame s.lmax bytes with
    | pending rs acc =>
      rw [arrive_fresh_pending hfresh hread]
      exact ⟨fun _ => s.standing_span rs acc, rfl⟩
    | ended r ovf rest =>
      obtain ⟨acc, -, ht⟩ := arrive_fresh_ended hfresh hread
      rw [invocationReturns_xact (s := ({ s with rxq := bytes } : State).atReturn r ovf acc) hlags hc] at ht
      exact ⟨_, ht, rfl⟩

end Sys2Proof.Machine
end

section
/-! RDF from its acceptance (R104): nothing to read yet, and a frame behind noise, in the held bytes or beyond them. -/

namespace Sys2Proof.Machine

/-! ### The acceptance -/

theorem exec_rdf_of_idle {s : State} (hbusy : s.status.busy = false) : exec .rdf s = .next (runCommand (acceptRdf s)) := by
  simp [exec, execRdf, hbusy]

/-- The accepted RDF with its first byte read begun, before it takes a held byte (R91, R104). -/
def startRdf (s : State) : State := startInvocation (acceptCommand .rdf s)

/-- The acceptance of RDF takes the held bytes from the start of a reader invocation. -/
theorem acceptRdf_eq_takeBytes (s : State) : acceptRdf s = takeBytes s.rxq ((startRdf s).standing .hunt1 []) := rfl

theorem takeBytes_nil_of_none_held {s : State} (hrxq : s.rxq = []) : takeBytes [] s = s := by
  rw [takeBytes_nil, ← hrxq]

theorem runCommand_of_no_stimulus {s : State} (hinbox : s.inbox = []) : runCommand s = s := by
  rw [runCommand, hinbox]
  change { s with inbox := [] } = s
  rw [← hinbox]

/-- Settles O20. -/
theorem rdfAcceptance : Obligations.RdfAcceptance := by
  intro s hbusy hrxq hinbox
  have haccept : acceptRdf s = startRdf s := by
    rw [acceptRdf_eq_takeBytes, hrxq]
    exact takeBytes_nil_of_none_held hrxq
  rw [exec_rdf_of_idle hbusy, haccept, runCommand_of_no_stimulus (s := startRdf s) hinbox]
  rfl

/-! ### The frame found -/

/-- An RDF in which `ReadFrame()` finds a frame ends with FRAME and leaves the bytes after it (R104). -/
theorem takeBytes_standing_frame {s : State} {bytes rest : List Byte} {rs : ReaderState} {acc : List Byte} {f : Frame}
    (hreading : s.reading) (hlags : s.lags = false) (hc : s.curop = .rdf)
    (hread : readFrom s.lmax rs acc bytes = .ended (.frame f) false rest) :
    takeBytes bytes (s.standing rs acc) =
      { raise .frame (.frame f) (s.heard (f.dst :: f.src :: f.body)) with rxq := rest } := by
  have hreached := takeBytes_standing_reached bytes rs acc hreading
  rw [hread] at hreached
  obtain ⟨span, ⟨-, hend⟩ | ⟨hfalse, -⟩, ht⟩ := hreached
  · rw [ht, State.atReturn_frame, takeBytes_returned_rdf (s := s.heard span) hlags hc, spanEnd_eq_frame_iff.1 hend.symm]
    rfl
  · cases hfalse

/-- Settles O24: `ReadFrame()` finds the frame. Where the frame reaches beyond the held bytes, `ReadFrame()` stands at their end,
and the block with it, until the others arrive. -/
theorem rdfFindsFrameBehindNoise : Obligations.RdfFindsFrameBehindNoise := by
  intro s z dst src body left hbusy ⟨hlags, hdue⟩ hnoise hplain hfits t
  have hread : readFrame s.lmax (z ++ encodeFrame dst src body ++ left) = .ended (.frame ⟨dst, src, body⟩) false left :=
    readFrame_behind_noise left hnoise hplain hfits
  refine ⟨?held, ?arriving⟩
  case held =>
    intro hrxq
    rw [exec_rdf_of_idle hbusy, acceptRdf_eq_takeBytes, hrxq,
      takeBytes_standing_frame (s := startRdf s) ⟨rfl, hdue⟩ hlags rfl hread, runCommand, drive_idle _ _ rfl]
    rfl
  case arriving =>
    intro bs rest hsplit hlt hinbox
    have hlonger : left.length < bs.length := by
      have hlength := congrArg List.length hsplit
      simp only [List.length_append] at hlength hlt
      omega
    rw [← hsplit] at hread
    obtain ⟨rs, acc, hpending, hended⟩ := readFrom_pending_of_ended hread hlonger
    have hheld : acceptRdf s = ({ startRdf s with rxq := [] } : State).standing rs acc := by
      have hreached := takeBytes_standing_reached s.rxq (s := startRdf s) .hunt1 [] ⟨rfl, hdue⟩
      rw [show readFrom (startRdf s).lmax .hunt1 [] s.rxq = .pending rs acc from hpending] at hreached
      exact hreached
    have hframe : arrive bs (acceptRdf s) = _ :=
      (congrArg (arrive bs) hheld).trans
        (takeBytes_standing_frame (s := { startRdf s with rxq := bs }) ⟨rfl, hdue⟩ hlags rfl hended)
    have hrun : runCommand (acceptRdf s) = drive rest (arrive bs (acceptRdf s)) := by
      have hin : (acceptRdf s).inbox = .rx bs :: rest := by rw [hheld]; exact hinbox
      have hbusy' : (acceptRdf s).status.busy = true := by rw [hheld]; rfl
      rw [runCommand, hin, drive_cons, if_pos ⟨hbusy', rfl⟩, deliver]
    rw [exec_rdf_of_idle hbusy, hrun, hframe, drive_idle _ _ rfl]
    rfl

/-- Settles O25: with an `FE` before it the frame is the encoding of another one, whose first address is `FE`. -/
theorem loneFEBeforeFrameShiftsIt : Obligations.LoneFEBeforeFrameShiftsIt := by
  intro s z dst src body rest hbusy hprompt hrxq hnoise hplain hfits hinbox
  have hshift : s.rxq ++ (z ++ [0xFE] ++ encodeFrame dst src body) = z ++ encodeFrame 0xFE dst (src :: body) ++ [] := by
    simp [hrxq, encodeFrame, Config.preamble]
  have hfound := (rdfFindsFrameBehindNoise s z 0xFE dst (src :: body) [] hbusy hprompt hnoise
    (by rw [List.all_cons, hplain]; rfl) hfits).2 _ rest hshift (by simp [hrxq, encodeFrame]) hinbox
  exact ⟨_, hfound, rfl, rfl, rfl, Memory.slice_writeList _ _ _, rfl, rfl⟩

end Sys2Proof.Machine
end

section
/-! Reader invocations that return no frame: `NoData` in an RDF, an overflow, an undersized span (R94, R98, R100). -/

namespace Sys2Proof.Machine

/-- Settles O35. -/
theorem noDataEndsRdfWithTimeout : Obligations.NoDataEndsRdfWithTimeout := by
  intro s es ho ⟨hlags, hdue⟩ hc hrtcnt hrxq hinbox
  rw [step_transport rfl hinbox, deliver,
    quietCycle_of_expired (s := { s with inbox := es }) ⟨⟨ho, hdue⟩, hrtcnt, hrxq⟩ hlags,
    invocationEnd_timeout_rdf (s := { s with inbox := es }) hc]
  rfl

theorem deadlineCheck_before {s : State} (hd : s.dlcnt ≠ 0) : deadlineCheck s = startInvocation s := by
  rw [deadlineCheck, if_neg (by simpa only [State.elapsed, decide_eq_true_eq] using hd)]

theorem deadlineCheck_after {s : State} (hd : s.dlcnt = 0) :
    deadlineCheck s = if s.status.uxseen then raise .unexpected .recorded s else raise .timeout .nothing s := by
  rw [deadlineCheck, if_pos (by simpa only [State.elapsed, decide_eq_true_eq] using hd)]

/-- A malformed frame that is the last there is to read (`q`, the bytes left, is empty) ends an RDF; to an XACT it is noise, and the
deadline check comes next (R104, R132, R133). -/
theorem takeBytes_malformed_outcomes {s : State} {q : List Byte} (ho : s.opst = .rd) (hlags : s.lags = false)
    (hq : q = []) :
    let t := takeBytes [] (invocationReturns .malformed s)
    (s.curop = .rdf → t = { raise .malformed .nothing s with rxq := q }) ∧
    (s.curop = .xact → s.dlcnt ≠ 0 → t = { s with rs := .hunt1, blen := 0, rtcnt := s.rdtmo, rxq := q }) ∧
    (s.curop = .xact → s.dlcnt = 0 → s.status.uxseen = true → t = { raise .unexpected .recorded s with rxq := q }) ∧
    (s.curop = .xact → s.dlcnt = 0 → s.status.uxseen = false → t = { raise .timeout .nothing s with rxq := q }) := by
  intro t
  subst hq
  have hxact (hc : s.curop = .xact) : t = { deadlineCheck s with rxq := [] } := by
    change takeBytes [] (invocationReturns .malformed s) = _
    rw [invocationReturns_xact hlags hc, takeBytes_nil, xactInvocationEnd, checkNext, orLater_now _ _ s hlags]
  refine ⟨?rdf, ?goesOn, ?unexpected, ?timeout⟩
  case rdf => exact fun hc => takeBytes_returned_rdf hlags hc .malformed []
  case goesOn =>
    intro hc hd
    rw [hxact hc, deadlineCheck_before hd]
    simp only [startInvocation, startRead, ho]
  case unexpected =>
    intro hc hd hux
    rw [hxact hc, deadlineCheck_after hd, if_pos hux]
  case timeout =>
    intro hc hd hux
    rw [hxact hc, deadlineCheck_after hd, if_neg (by simp [hux])]

/-- Settles O37. -/
theorem overflowEndsRdfMalformed : Obligations.OverflowEndsRdfMalformed := by
  intro s b es ho ⟨hlags, hdue⟩ hrs hfull hrxq hb hinbox
  rw [step_rx hinbox, arrive_byte b (s := { s with inbox := es }) ⟨ho, hdue⟩ hrxq,
    readByte_overflow (s := { s with inbox := es, rxq := [b] }) hrs hb hfull.ge, bufferOverflow]
  obtain ⟨hrdf, hgoesOn, hunexpected, htimeout⟩ := takeBytes_malformed_outcomes
    (s := countMalformed { s with inbox := es, rxq := [b], status := { s.status with ovf := true } }) ho hlags hrxq
  exact ⟨fun hc => congrArg _ (hrdf hc), fun hc hd => congrArg _ (hgoesOn hc hd),
    fun hc hd hux => congrArg _ (hunexpected hc hd hux), fun hc hd hux => congrArg _ (htimeout hc hd hux)⟩

/-- An undersized span that arrives at a reader at the start of an invocation is counted, and the invocation returns (R98, R111). -/
theorem arrive_undersized {s : State} (x : Option Byte) (hfresh : s.readerFresh) (hplain : x.all plain = true)
    (hlmax : 10 ≤ s.lmax) :
    arrive (encodeUndersized x) s = takeBytes [] (invocationReturns .malformed
      (countMalformed (({ s with rxq := encodeUndersized x } : State).heard x.toList))) := by
  obtain ⟨hreading, hrs, hblen, hrxq⟩ := hfresh
  have hspan : x.toList.all plain = true ∧ x.toList.length ≤ s.lmax ∧ decodeSpan x.toList = none := by
    cases x with
    | none => exact ⟨rfl, Nat.zero_le _, rfl⟩
    | some b => exact ⟨by simpa using hplain, by simp; omega, rfl⟩
  obtain ⟨hall, hfits, hdecode⟩ := hspan
  have htake := takeBytes_delimited x.toList [] { s with rxq := encodeUndersized x } hreading hrs hblen hall hfits
  simp only [spanComplete, State.heard_span, hdecode] at htake
  simp only [arrive, takeHeld, hrxq, List.nil_append]
  exact htake

/-- Settles O44. -/
theorem undersizedSpanIsCountedOnly : Obligations.UndersizedSpanIsCountedOnly := by
  intro s x hfresh hlags hlmax hplain t
  rw [exec_frame rfl, Instr.wireBytes, arrive_undersized x hfresh hplain hlmax]
  obtain ⟨⟨ho, -⟩, -, -, hrxq⟩ := hfresh
  obtain ⟨hrdf, hgoesOn, hunexpected, htimeout⟩ := takeBytes_malformed_outcomes
    (s := countMalformed (({ s with rxq := encodeUndersized x } : State).heard x.toList)) ho hlags hrxq
  exact ⟨fun hc => congrArg _ (hrdf hc), fun hc hd => congrArg _ (hgoesOn hc hd),
    fun hc hd hux => congrArg _ (hunexpected hc hd hux), fun hc hd hux => congrArg _ (htimeout hc hd hux)⟩

end Sys2Proof.Machine
end

section
/-! Well-formed frames in an XACT (R114, R116, R130 to R132): the class by the opcode byte, the frame that ends the transaction, the
frame that is recorded. -/

namespace Sys2Proof.Machine

/-! ### The class -/

/-- Neither the addresses nor anything after the first byte of the body is looked at (R114, R115). -/
theorem classify_head (f : Frame) (dst src : Byte) : classify f = classify ⟨dst, src, f.body.head?.toList⟩ := by
  obtain ⟨_, _, body⟩ := f
  cases body <;> rfl

theorem isClassOpcode_eq_false_iff (op : Byte) :
    isClassOpcode op = false ↔ (op ≠ Config.opcFreq ∧ op ≠ Config.opcAck) ∧ op ≠ Config.opcNak := by
  simp [isClassOpcode]

theorem classify_of_not_classOpcode (dst src : Byte) {op : Byte} {rest : List Byte} (hop : isClassOpcode op = false) :
    classify ⟨dst, src, op :: rest⟩ = .other := by
  obtain ⟨⟨hfreq, hack⟩, hnak⟩ := (isClassOpcode_eq_false_iff op).1 hop
  simp only [classify, hfreq, hack, hnak, if_false]

/-- The classifier's table (R114). -/
theorem classify_cases (f : Frame) :
    (f.body = [] ∧ classify f = .noopc) ∨ (f.body.head? = some 0x03 ∧ classify f = .freq) ∨
    (f.body.head? = some 0xFB ∧ classify f = .ack) ∨ (f.body.head? = some 0xFA ∧ classify f = .nak) ∨
    ((∃ op, f.body.head? = some op ∧ op ≠ 0x03 ∧ op ≠ 0xFB ∧ op ≠ 0xFA) ∧ classify f = .other) := by
  obtain ⟨dst, src, body⟩ := f
  cases body with
  | nil => exact .inl ⟨rfl, rfl⟩
  | cons op rest =>
    by_cases hop : isClassOpcode op = true
    · obtain (rfl | rfl) | rfl : (op = Config.opcFreq ∨ op = Config.opcAck) ∨ op = Config.opcNak := by
        simpa [isClassOpcode] using hop
      · exact .inr (.inl ⟨rfl, rfl⟩)
      · exact .inr (.inr (.inl ⟨rfl, rfl⟩))
      · exact .inr (.inr (.inr (.inl ⟨rfl, rfl⟩)))
    · rw [Bool.not_eq_true] at hop
      obtain ⟨⟨hfreq, hack⟩, hnak⟩ := (isClassOpcode_eq_false_iff op).1 hop
      exact .inr (.inr (.inr (.inr ⟨⟨op, rfl, hfreq, hack, hnak⟩, classify_of_not_classOpcode dst src hop⟩)))

/-- Settles O13: the cases of the table exclude each other, by the head of the body. -/
theorem classReadsOpcodeByteOnly : Obligations.ClassReadsOpcodeByteOnly := by
  refine ⟨fun f g hhead => ?alike, fun f => ?noopc, fun f => ?freq, fun f => ?ack, fun f => ?nak, fun f => ?other,
    rfl, rfl, rfl, rfl, rfl, rfl, fun _ => rfl⟩
  case alike => rw [classify_head f 0 0, classify_head g 0 0, hhead]
  all_goals
    rcases classify_cases f with ⟨hbody, hclass⟩ | ⟨hbody, hclass⟩ | ⟨hbody, hclass⟩ | ⟨hbody, hclass⟩ |
        ⟨⟨op, hbody, hops⟩, hclass⟩ <;>
      simp_all [← List.head?_eq_none_iff]

/-! ### The span of a well-formed frame -/

/-- The bytes of a well-formed frame hold the terminator at their end only (R63). -/
theorem span_plain_of_wellFormed {i : Instr} {dst src : Byte} {body : List Byte} (hwf : i.wellFormed = true)
    (hframe : isFrame i = true) (hbytes : i.wireBytes = encodeFrame dst src body) : (dst :: src :: body).all plain = true := by
  have hdecode : decode (encode i) = .ok i := decodeOfEncodeIsIdentity i hwf
  rw [encode_of_isFrame hframe] at hdecode
  obtain ⟨span, hspan, hi⟩ := exists_span_of_decodeWire hdecode
  have hdelimited : encodeFrame dst src body = Config.preamble :: Config.preamble :: (span ++ [Config.term]) := by
    rw [← hbytes, ← hi, decodeSpanInstr_wireBytes]
  rw [encodeFrame_eq_delimited, List.cons_inj_right, List.cons_inj_right] at hdelimited
  rwa [List.append_cancel_right hdelimited]

/-! ### A frame that arrives in an XACT -/

theorem raiseTerminal_of_outcome {f : Frame} {k : Kind} (hk : outcomeOf (classify f) = some k) (s : State) :
    raiseTerminal f s = raise k (if k.carriesFrame then .frame f else .nothing) s := by
  rw [raiseTerminal, hk]

section
variable {s : State} {dst src : Byte} {body : List Byte} (hfresh : s.readerFresh) (hlags : s.lags = false)
  (hc : s.curop = .xact) (hplain : (dst :: src :: body).all plain = true) (hfits : body.length + 2 ≤ s.lmax)
include hfresh hlags hc hplain hfits

/-- A frame that is the last there is to read: the XACT goes on with it (R98, R127). -/
theorem arrive_frame_xact :
    arrive (encodeFrame dst src body) s =
      { xactInvocationEnd (.frame ⟨dst, src, body⟩)
          (({ s with rxq := encodeFrame dst src body } : State).heard (dst :: src :: body)) with rxq := s.rxq } := by
  have ⟨_, _, _, hrxq⟩ := hfresh
  rw [arrive_frame dst src body s hfresh hplain hfits, takeBytes_nil, hrxq, invocationReturns_xact (by exact hlags) (by exact hc)]

/-- A terminal frame ends the transaction with the outcome of its class, whatever the deadline (R116, R130, R136). -/
theorem arrive_terminal {k : Kind} (hterm : terminal (classify ⟨dst, src, body⟩) s.expect = true)
    (hk : outcomeOf (classify ⟨dst, src, body⟩) = some k) :
    arrive (encodeFrame dst src body) s =
      raise k (if k.carriesFrame then .frame ⟨dst, src, body⟩ else .nothing) (s.heard (dst :: src :: body)) := by
  rw [arrive_frame_xact hfresh hlags hc hplain hfits, xactInvocationEnd, if_pos (by exact hterm), raiseTerminal_of_outcome hk]
  cases k.carriesFrame <;> rfl

/-- Any other frame is recorded, and the deadline decides between UNEXPECTED and the next invocation (R131, R132). -/
theorem arrive_unselected (hterm : terminal (classify ⟨dst, src, body⟩) s.expect = false) :
    arrive (encodeFrame dst src body) s =
      if s.dlcnt = 0 then raise .unexpected .recorded (recordUnexpected ⟨dst, src, body⟩ (s.heard (dst :: src :: body)))
      else { recordUnexpected ⟨dst, src, body⟩ (s.heard (dst :: src :: body)) with rs := .hunt1, blen := 0 } := by
  rw [arrive_frame_xact hfresh hlags hc hplain hfits, xactInvocationEnd, if_neg (by exact Bool.eq_false_iff.1 hterm), checkNext,
    orLater_now _ _ _ (by exact hlags)]
  have ⟨⟨ho, _⟩, _⟩ := hfresh
  split_ifs with hd
  · rw [deadlineCheck_after (by exact hd), if_pos (by rfl)]
    rfl
  · rw [deadlineCheck_before (by exact hd), startInvocation, ← ho]
    rfl

end

/-! ### The rows of the table -/

/-- Settles O40: ACK is terminal under EXPECT bit 1. -/
theorem ackEndsWait : Obligations.AckEndsWait := by
  intro s dst src extra hfresh hlags hc hexpect hwf hfits
  rw [exec_frame rfl, Instr.wireBytes,
    arrive_terminal hfresh hlags hc (span_plain_of_wellFormed hwf rfl rfl) hfits hexpect rfl]
  rfl

/-- Settles O41: NAK is terminal under EXPECT bit 2. -/
theorem nakEndsWait : Obligations.NakEndsWait := by
  intro s dst src extra hfresh hlags hc hexpect hwf hfits
  rw [exec_frame rfl, Instr.wireBytes,
    arrive_terminal hfresh hlags hc (span_plain_of_wellFormed hwf rfl rfl) hfits hexpect rfl]
  rfl

/-- A well-formed frame of a class that EXPECT does not select, at the start of an invocation of an XACT (R131, R132, R201). -/
theorem exec_unselected {s : State} {i : Instr} {dst src : Byte} {body : List Byte} {c : FrameClass} (hfresh : s.readerFresh)
    (hlags : s.lags = false) (hc : s.curop = .xact) (hfits : body.length + 2 ≤ s.lmax) (hwf : i.wellFormed = true)
    (hframe : isFrame i = true) (hbytes : i.wireBytes = encodeFrame dst src body) (hclass : classify ⟨dst, src, body⟩ = c)
    (hterm : terminal c s.expect = false) :
    exec i s = .next (
      if s.dlcnt = 0 then { s.heard (dst :: src :: body) with
        status := { s.status with busy := false, done := true, uxseen := true }
        result := ⟨.unexpected, some c, true⟩, resTo := dst, resFrom := src, resLen := body.length
        resBody := s.resBody.writeList 0 body, curop := .none, opst := .idle }
      else { s.heard (dst :: src :: body) with
        status := { s.status with uxseen := true }
        result := { s.result with cls := some c, valid := true }, resTo := dst, resFrom := src, resLen := body.length
        resBody := s.resBody.writeList 0 body, rs := .hunt1, blen := 0 }) := by
  subst hclass
  rw [exec_frame hframe, hbytes,
    arrive_unselected hfresh hlags hc (span_plain_of_wellFormed hwf hframe hbytes) hfits hterm]
  rfl

/-- Settles O42: the body of each row begins with no opcode byte of a class, so no EXPECT selects it. -/
theorem otherFramesAreRecorded : Obligations.OtherFramesAreRecorded := by
  intro s dst src body i hfresh hlags hc _ hfits hwf hrow
  have hrecorded (hframe : isFrame i = true) (hbytes : i.wireBytes = encodeFrame dst src body)
      (hclass : classify ⟨dst, src, body⟩ = .other) := exec_unselected hfresh hlags hc hfits hwf hframe hbytes hclass rfl
  obtain ⟨_, _, _, _, _, _, rfl, rfl⟩ | ⟨_, _, _, _, rfl, rfl⟩ | ⟨_, _, _, _, _, rfl, rfl⟩ | ⟨op, rest, rfl, rfl⟩ := hrow
  · exact hrecorded rfl rfl (classify_of_not_classOpcode dst src isClassOpcode_opcExt1)
  · exact hrecorded rfl rfl (classify_of_not_classOpcode dst src isClassOpcode_opcExt1)
  · exact hrecorded rfl rfl (classify_of_not_classOpcode dst src isClassOpcode_opcExt1)
  · simp only [Instr.wellFormed, Bool.and_eq_true, Bool.not_eq_true'] at hwf
    obtain ⟨⟨-, hop⟩, -⟩ := hwf
    exact hrecorded rfl rfl (classify_of_not_classOpcode dst src hop)

/-- Settles O45: each row is of the class whose EXPECT bit is clear. -/
theorem unselectedAckIsRecorded : Obligations.UnselectedAckIsRecorded := by
  intro s dst src body i c hfresh hlags hc hfits hwf hrow
  obtain ⟨rfl, rfl, rfl, hexpect⟩ | ⟨payload, rfl, rfl, rfl, hexpect⟩ | ⟨extra, rfl, rfl, rfl, hexpect⟩ |
    ⟨extra, rfl, rfl, rfl, hexpect⟩ := hrow
  all_goals exact exec_unselected hfresh hlags hc hfits hwf rfl rfl rfl hexpect

/-- Settles O43: a frame without a body is never terminal. -/
theorem noopcFrameIsRecorded : Obligations.NoopcFrameIsRecorded := by
  intro s dst src hfresh hlags hc hlmax hwf
  exact exec_unselected (body := []) hfresh hlags hc (Nat.le_trans (by decide) hlmax) hwf rfl rfl rfl rfl

end Sys2Proof.Machine
end

section
/-! No address is examined (R117, R140): a relation of states that differ where addresses are stored, and that it is kept by all the
reader and the running command do with a byte. -/

namespace Sys2Proof.Machine

/-! ### States that differ in addresses only -/

/-- The states agree but for the addresses in the result registers, the first two bytes of `BUF`, where the reader puts the addresses,
and the bytes in the transport. That their spans can differ does no harm, since what the decoder makes of a span depends on those two
bytes in the addresses only (`spanEnd_slice_readdressed`). -/
def AlikeButAddresses (s t : State) : Prop :=
  ∃ (dst src : Byte) (buf : Memory) (rxq : List Byte),
    t = { s with resTo := dst, resFrom := src, buf := buf, rxq := rxq } ∧ ∀ i, 2 ≤ i → s.buf.read? i = buf.read? i

/-- The same result of an invocation with other addresses in its frame. -/
def ReadEnd.readdressed (dst src : Byte) : ReadEnd → ReadEnd
  | .frame f => .frame ⟨dst, src, f.body⟩
  | .malformed => .malformed
  | .timeout => .timeout

/-- Two spans of one length that agree from their third byte on are decoded alike but for the addresses (R110). -/
theorem spanEnd_slice_readdressed {m m' : Memory} (free : Nat → Byte) (n : Nat)
    (h : ∀ i, 2 ≤ i → m.read? i = m'.read? i) :
    ∃ dst src, spanEnd (m'.slice free 0 n) = (spanEnd (m.slice free 0 n)).readdressed dst src := by
  match n with
  | 0 => exact ⟨0, 0, rfl⟩
  | 1 => exact ⟨0, 0, rfl⟩
  | n + 2 =>
    have hbody : m'.slice free 2 n = m.slice free 2 n := Memory.slice_congr m' m free 2 n fun i hi _ => (h i hi).symm
    refine ⟨(m'.read? 0).getD (free 0), (m'.read? 1).getD (free 1), ?_⟩
    simp only [Memory.slice, hbody]
    rfl

/-! ### What is kept through each operation -/

section
variable {s t : State}

theorem raise_alike (h : AlikeButAddresses s t) (k : Kind) (info : Info) : AlikeButAddresses (raise k info s) (raise k info t) := by
  obtain ⟨dst, src, buf, rxq, rfl, hbuf⟩ := h
  cases info <;> exact ⟨_, _, buf, rxq, rfl, hbuf⟩

theorem raise_frame_alike (h : AlikeButAddresses s t) (k : Kind) (f : Frame) (dst src : Byte) :
    AlikeButAddresses (raise k (.frame f) s) (raise k (.frame ⟨dst, src, f.body⟩) t) :=
  match h with | ⟨_, _, buf, rxq, ht, hbuf⟩ => ⟨dst, src, buf, rxq, ht ▸ rfl, hbuf⟩

theorem recordUnexpected_alike (h : AlikeButAddresses s t) (f : Frame) (dst src : Byte) :
    AlikeButAddresses (recordUnexpected f s) (recordUnexpected ⟨dst, src, f.body⟩ t) :=
  match h with | ⟨_, _, buf, rxq, ht, hbuf⟩ => ⟨dst, src, buf, rxq, ht ▸ rfl, hbuf⟩

theorem startInvocation_alike (h : AlikeButAddresses s t) : AlikeButAddresses (startInvocation s) (startInvocation t) :=
  match h with | ⟨dst, src, buf, rxq, ht, hbuf⟩ => ⟨dst, src, buf, rxq, ht ▸ rfl, hbuf⟩

theorem countMalformed_alike (h : AlikeButAddresses s t) : AlikeButAddresses (countMalformed s) (countMalformed t) :=
  match h with | ⟨dst, src, buf, rxq, ht, hbuf⟩ => ⟨dst, src, buf, rxq, ht ▸ rfl, hbuf⟩

theorem setOvf_alike (h : AlikeButAddresses s t) :
    AlikeButAddresses { s with status := { s.status with ovf := true } } { t with status := { t.status with ovf := true } } :=
  match h with | ⟨dst, src, buf, rxq, ht, hbuf⟩ => ⟨dst, src, buf, rxq, ht ▸ rfl, hbuf⟩

theorem hunt_alike (h : AlikeButAddresses s t) (rs : ReaderState) :
    AlikeButAddresses { s with rs := rs, rtcnt := s.rdtmo } { t with rs := rs, rtcnt := t.rdtmo } :=
  match h with | ⟨dst, src, buf, rxq, ht, hbuf⟩ => ⟨dst, src, buf, rxq, ht ▸ rfl, hbuf⟩

theorem accumulate_alike (h : AlikeButAddresses s t) (b : Byte) :
    AlikeButAddresses (startRead (accumulate b s)) (startRead (accumulate b t)) := by
  obtain ⟨dst, src, buf, rxq, rfl, hbuf⟩ := h
  refine ⟨dst, src, buf.write s.blen b, rxq, rfl, fun i hi => ?_⟩
  simp only [startRead, accumulate, Memory.read?_write, hbuf i hi]

theorem deadlineCheck_alike (h : AlikeButAddresses s t) : AlikeButAddresses (deadlineCheck s) (deadlineCheck t) := by
  obtain ⟨_, _, _, _, rfl, -⟩ := id h
  by_cases hd : s.dlcnt = 0
  · rw [deadlineCheck_after hd, deadlineCheck_after (by exact hd)]
    split_ifs
    · exact raise_alike h .unexpected .recorded
    · exact raise_alike h .timeout .nothing
  · rw [deadlineCheck_before hd, deadlineCheck_before (by exact hd)]
    exact startInvocation_alike h

/-- The class is that of the body (R115). -/
theorem raiseTerminal_alike (h : AlikeButAddresses s t) (f : Frame) (dst src : Byte) :
    AlikeButAddresses (raiseTerminal f s) (raiseTerminal ⟨dst, src, f.body⟩ t) := by
  have hclass : classify ⟨dst, src, f.body⟩ = classify f := rfl
  rw [raiseTerminal, raiseTerminal, hclass]
  cases outcomeOf (classify f) with
  | none => exact h
  | some k =>
    cases hk : k.carriesFrame with
    | true => simpa only [hk, if_true] using raise_frame_alike h k f dst src
    | false => simpa only [hk, Bool.false_eq_true, if_false] using raise_alike h k .nothing

theorem checkNext_alike (h : AlikeButAddresses s t) (hlags : s.lags = false) : AlikeButAddresses (checkNext s) (checkNext t) := by
  obtain ⟨_, _, _, _, rfl, -⟩ := id h
  rw [checkNext, checkNext, orLater_now _ _ _ hlags, orLater_now _ _ _ (by exact hlags)]
  exact deadlineCheck_alike h

theorem xactInvocationEnd_alike (h : AlikeButAddresses s t) (hlags : s.lags = false) (r : ReadEnd) (dst src : Byte) :
    AlikeButAddresses (xactInvocationEnd r s) (xactInvocationEnd (r.readdressed dst src) t) := by
  cases r with
  | frame f =>
    obtain ⟨_, _, _, _, rfl, -⟩ := id h
    rw [ReadEnd.readdressed, xactInvocationEnd, xactInvocationEnd]
    by_cases hterm : terminal (classify f) s.expect = true
    · rw [if_pos hterm, if_pos (by exact hterm)]
      exact raiseTerminal_alike h f dst src
    · rw [if_neg hterm, if_neg (by exact hterm)]
      exact checkNext_alike (recordUnexpected_alike h f dst src) hlags
  | malformed => exact checkNext_alike h hlags
  | timeout => exact checkNext_alike h hlags

theorem rdfInvocationEnd_alike (h : AlikeButAddresses s t) (r : ReadEnd) (dst src : Byte) :
    AlikeButAddresses (rdfInvocationEnd r s) (rdfInvocationEnd (r.readdressed dst src) t) := by
  cases r with
  | frame f => exact raise_frame_alike h .frame f dst src
  | malformed => exact raise_alike h .malformed .nothing
  | timeout => exact raise_alike h .timeout .nothing

theorem invocationReturns_alike (h : AlikeButAddresses s t) (hlags : s.lags = false) (r : ReadEnd) (dst src : Byte) :
    AlikeButAddresses (invocationReturns r s) (invocationReturns (r.readdressed dst src) t) := by
  obtain ⟨hlags', hcurop⟩ : t.lags = s.lags ∧ t.curop = s.curop := by
    obtain ⟨_, _, _, _, rfl, -⟩ := h
    exact ⟨rfl, rfl⟩
  rw [invocationReturns, invocationReturns, orLater_now _ _ s hlags, orLater_now _ _ t (hlags'.trans hlags), invocationEnd,
    invocationEnd, hcurop]
  cases s.curop with
  | none => exact h
  | send => exact h
  | rdf => exact rdfInvocationEnd_alike h r dst src
  | xact => exact xactInvocationEnd_alike h hlags r dst src

/-- What the running command goes on with at the terminator, and in which state (R98, R111). -/
theorem spanComplete_eq (s : State) : spanComplete s =
    invocationReturns (spanEnd s.span) (if spanEnd s.span = .malformed then countMalformed s else s) := by
  rw [spanComplete, spanEnd]
  cases decodeSpan s.span <;> simp

theorem spanComplete_alike (h : AlikeButAddresses s t) (hlags : s.lags = false) :
    AlikeButAddresses (spanComplete s) (spanComplete t) := by
  obtain ⟨_, _, _, _, rfl, hbuf⟩ := id h
  obtain ⟨dst, src, hspan⟩ := spanEnd_slice_readdressed Config.unwrittenBufByte s.blen hbuf
  rw [spanComplete_eq, spanComplete_eq, State.span, State.span, hspan]
  cases spanEnd (s.buf.slice Config.unwrittenBufByte 0 s.blen) with
  | frame f => exact invocationReturns_alike h hlags (.frame f) dst src
  | malformed => exact invocationReturns_alike (countMalformed_alike h) hlags .malformed dst src
  | timeout => exact invocationReturns_alike h hlags .timeout dst src

theorem bufferOverflow_alike (h : AlikeButAddresses s t) (hlags : s.lags = false) :
    AlikeButAddresses (bufferOverflow s) (bufferOverflow t) :=
  invocationReturns_alike (countMalformed_alike (setOvf_alike h)) hlags .malformed 0 0

theorem readByte_alike (h : AlikeButAddresses s t) (hlags : s.lags = false) (b : Byte) :
    AlikeButAddresses (readByte b s) (readByte b t) := by
  obtain ⟨hrs', hblen, hlmax⟩ : t.rs = s.rs ∧ t.blen = s.blen ∧ t.lmax = s.lmax := by
    obtain ⟨_, _, _, _, rfl, -⟩ := h
    exact ⟨rfl, rfl, rfl⟩
  cases hrs : s.rs with
  | hunt1 =>
    rw [readByte_hunt1 b hrs, readByte_hunt1 b (hrs'.trans hrs)]
    exact hunt_alike h _
  | hunt2 =>
    rw [readByte_hunt2 b hrs, readByte_hunt2 b (hrs'.trans hrs)]
    exact hunt_alike h _
  | accum =>
    by_cases hb : b = Config.term
    · rw [hb, readByte_term hrs, readByte_term (hrs'.trans hrs)]
      exact spanComplete_alike h hlags
    by_cases hroom : s.blen < s.lmax
    · rw [readByte_store hrs hb hroom, readByte_store (hrs'.trans hrs) hb (by omega)]
      exact accumulate_alike h b
    · rw [readByte_overflow hrs hb (by omega), readByte_overflow (hrs'.trans hrs) hb (by omega)]
      exact bufferOverflow_alike h hlags

/-- The same bytes lead alike states to alike states, with the same bytes left. -/
theorem takeBytes_alike (bytes : List Byte) {s t : State} (h : AlikeButAddresses s t) (hlags : s.lags = false) :
    AlikeButAddresses (takeBytes bytes s) (takeBytes bytes t) ∧ (takeBytes bytes t).rxq = (takeBytes bytes s).rxq := by
  induction bytes generalizing s t with
  | nil =>
    obtain ⟨dst, src, buf, rxq, rfl, hbuf⟩ := h
    exact ⟨⟨dst, src, buf, [], rfl, hbuf⟩, rfl⟩
  | cons b bytes ih =>
    have hnext := ih (readByte_alike h hlags b) ((readByte_receiveFrame b s).2.1.trans hlags)
    obtain ⟨dst, src, buf, rxq, rfl, hbuf⟩ := h
    by_cases hreading : s.reading
    · rw [takeBytes_cons b bytes s hreading, takeBytes_cons b bytes _ (by exact hreading)]
      exact hnext
    · rw [takeBytes_waits _ s hreading, takeBytes_waits _ _ (by exact hreading)]
      exact ⟨⟨dst, src, buf, b :: bytes, rfl, hbuf⟩, rfl⟩

end

/-! ### Two frames with one body -/

/-- The addresses of a frame are stored, whatever they are, and the reader goes on with the body (R93, R95, R99). -/
theorem takeBytes_encodeFrame {s : State} {dst src : Byte} (body : List Byte) (hreading : s.reading)
    (hdst : dst ≠ Config.term) (hsrc : src ≠ Config.term) (hroom : 2 ≤ s.lmax) :
    takeBytes (encodeFrame dst src body) (s.standing .hunt1 []) = takeBytes (body ++ [Config.term]) (s.heard [dst, src]) := by
  have hfirst : readByte Config.preamble (s.standing .hunt1 []) = s.standing .hunt2 [] := readByte_hunt1 _ rfl
  have hsecond : readByte Config.preamble (s.standing .hunt2 []) = s.standing .accum [] := readByte_hunt2 _ rfl
  have hto : readByte dst (s.standing .accum []) = s.standing .accum [dst] := readByte_standing_store hdst (by simp; omega)
  have hfrom : readByte src (s.standing .accum [dst]) = s.heard [dst, src] := readByte_standing_store hsrc hroom
  rw [encodeFrame, takeBytes_cons _ _ _ (by exact hreading), hfirst, takeBytes_cons _ _ _ (by exact hreading), hsecond,
    takeBytes_cons _ _ _ (by exact hreading), hto, takeBytes_cons _ _ _ (by exact hreading), hfrom]

theorem arrive_encodeFrame {s : State} {dst src : Byte} (body : List Byte) (hfresh : s.readerFresh)
    (hdst : plain dst = true) (hsrc : plain src = true) (hroom : 2 ≤ s.lmax) :
    arrive (encodeFrame dst src body) s =
      takeBytes (body ++ [Config.term]) (({ s with rxq := encodeFrame dst src body } : State).heard [dst, src]) := by
  rw [arrive_fresh hfresh (by simp [encodeFrame])]
  exact takeBytes_encodeFrame (s := { s with rxq := _ }) body hfresh.1 ((plain_iff dst).1 hdst) ((plain_iff src).1 hsrc) hroom

theorem heard_alike (s : State) (q q' : List Byte) (d1 s1 d2 s2 : Byte) :
    AlikeButAddresses (({ s with rxq := q } : State).heard [d1, s1]) (({ s with rxq := q' } : State).heard [d2, s2]) := by
  refine ⟨s.resTo, s.resFrom, s.buf.writeList 0 [d2, s2], q', rfl, fun i hi => ?_⟩
  rw [State.heard, Memory.read?_writeList, Memory.read?_writeList, if_neg (by simp; omega), if_neg (by simp; omega)]

/-- Settles O46: from the addresses on, the reader takes the same bytes in alike states. -/
theorem addressesDoNotMatter : Obligations.AddressesDoNotMatter := by
  intro s d1 s1 d2 s2 body hlmax hfresh hlags _ hplain t u
  obtain ⟨hd1, hs1, hd2, hs2, -⟩ : plain d1 = true ∧ plain s1 = true ∧ plain d2 = true ∧ plain s2 = true ∧
      body.all plain = true := by simpa only [List.all_cons, Bool.and_eq_true] using hplain
  have ht : t = takeBytes _ _ := arrive_encodeFrame body hfresh hd1 hs1 (by omega)
  have hu : u = takeBytes _ _ := arrive_encodeFrame body hfresh hd2 hs2 (by omega)
  obtain ⟨halike, hrxq⟩ := takeBytes_alike (body ++ [Config.term])
    (heard_alike s (encodeFrame d1 s1 body) (encodeFrame d2 s2 body) d1 s1 d2 s2) hlags
  rw [← ht, ← hu] at halike hrxq
  obtain ⟨dst, src, buf, rxq, hu', hbuf⟩ := halike
  obtain rfl : rxq = t.rxq := by rw [← hrxq, hu']
  rw [hu']
  exact ⟨rfl, hbuf⟩

end Sys2Proof.Machine
end

section
/-! The transaction from its acceptance (R125 to R129): the request on the transmit stream, whatever the delays, and then the reader
at the start of its first invocation. -/

namespace Sys2Proof.Machine

/-! ### The acceptance -/

theorem exec_xact_of_fits {s : State} (hbusy : s.status.busy = false) (hfits : s.txLen ≤ s.bmax) :
    exec .xact s = .next (runCommand (acceptXact s)) := by
  have hsend : s.sendable = true := (sendable_iff s).2 ⟨hbusy, hfits⟩
  rw [exec, execXact, if_pos hsend]

/-- Settles O19: with no stimulus after it the accepted XACT stays where it is. -/
theorem xactAcceptance : Obligations.XactAcceptance := by
  intro s hbusy hfits hinbox
  rw [exec_xact_of_fits hbusy hfits, runCommand_of_no_stimulus (s := acceptXact s) hinbox]
  rfl

/-! ### The request among any delays -/

theorem toNat_satDec (w : Word) : (satDec w).toNat = w.toNat - 1 := by
  rw [satDec_eq_ite]
  split
  case isTrue hne => bv_omega
  case isFalse hzero => bv_omega

/-- A timer after `n` ticks (R27, R28). -/
theorem toNat_satDec_iterate (n : Nat) (w : Word) : (satDec^[n] w).toNat = w.toNat - n := by
  induction n generalizing w with
  | zero => rfl
  | succ n ih =>
    rw [Function.iterate_succ_apply, ih, toNat_satDec]
    omega

/-- A timer at 0 stays as it is (R33). -/
theorem satDec_eq_ite_self (w : Word) : satDec w = if w ≠ 0 then w - 1 else w := by
  rw [satDec_eq_ite]
  split_ifs with hw
  · rfl
  · exact (not_not.1 hw).symm

/-- An XACT that has taken the stimuli `es` of the transport, before the last byte of its request is accepted: as in a SEND, and the
deadline counter runs (R27). -/
def State.requestingAfter (s : State) (es : List Stimulus) : State :=
  { s.sendingAfter es with dlcnt := satDec^[es.countP Stimulus.isTick] s.dlcnt }

theorem State.requestingAfter_nil (s : State) : s.requestingAfter [] = s := by
  rw [State.requestingAfter, State.sendingAfter_nil]
  rfl

theorem State.requestingAfter_cons (s : State) (e : Stimulus) (es : List Stimulus) :
    (s.requestingAfter [e]).requestingAfter es = s.requestingAfter (e :: es) := by
  have hticks : (e :: es).countP Stimulus.isTick = es.countP Stimulus.isTick + [e].countP Stimulus.isTick := by
    rw [← List.singleton_append, List.countP_append, Nat.add_comm]
  have hsent := State.sendingAfter_cons { s with
    dlcnt := satDec^[es.countP Stimulus.isTick] (satDec^[[e].countP Stimulus.isTick] s.dlcnt) } e es
  refine Eq.trans hsent ?_
  rw [← Function.iterate_add_apply, ← hticks]
  rfl

theorem deliver_of_requesting {e : Stimulus} {s : State} (hput : s.putting) (hc : s.curop = .xact) (he : e.isTransport = true)
    (hroom : s.txidx + [e].count .txReady < s.txLen + 5) : deliver e s = s.requestingAfter [e] := by
  by_cases hready : e = .txReady
  · subst hready
    have hroom : s.txidx + 1 < s.txLen + 5 := hroom
    obtain ⟨b, hb⟩ := exists_txFrame_byte (s := s) (by omega)
    rw [deliver, txAccept_of_putting hput hb, if_neg hroom.ne]
    simp [putByte, State.requestingAfter, State.sendingAfter, take_one_drop hb, Stimulus.isTick, Stimulus.bytes]
  · rw [deliver_of_not_reading (not_reading_of_tx hput.1) he hready]
    cases htick : e.isTick <;> simp [State.requestingAfter, State.sendingAfter, hready, hc, htick, satDec_eq_ite_self]

/-- An XACT goes through any delays as long as a byte of its request is left (R41, R87). -/
theorem drive_of_requesting {es : List Stimulus} (rest : List Stimulus) {s : State} (hput : s.putting) (hc : s.curop = .xact)
    (hbusy : s.status.busy = true) (hes : ∀ e ∈ es, e.isTransport = true)
    (hroom : s.txidx + es.count .txReady < s.txLen + 5) : drive (es ++ rest) s = drive rest (s.requestingAfter es) := by
  induction es generalizing s with
  | nil => rw [State.requestingAfter_nil, List.nil_append]
  | cons e es ih =>
    have hcount : (e :: es).count .txReady = [e].count .txReady + es.count .txReady := List.count_append (l₁ := [e])
    have he : e.isTransport = true := hes e List.mem_cons_self
    rw [List.cons_append, drive_cons, if_pos ⟨hbusy, he⟩, deliver_of_requesting hput hc he (by omega),
      ← State.requestingAfter_cons s e es]
    exact ih (s := s.requestingAfter [e]) hput hc hbusy (fun e' he' => hes e' (List.mem_cons_of_mem e he'))
      (by simp only [State.requestingAfter, State.sendingAfter]; omega)

/-- An XACT whose request has been put among the stimuli `es`, at the start of its first reader invocation (R91, R129), before it
takes a held byte. -/
def State.listeningAfter (s : State) (es : List Stimulus) : State :=
  startInvocation { s with
    txidx := s.txLen + 5, tx := s.tx ++ s.txFrame, ticks := s.ticks + es.countP Stimulus.isTick
    rxq := s.rxq ++ es.flatMap Stimulus.bytes, dlcnt := satDec^[es.countP Stimulus.isTick] s.dlcnt }

/-- The last acceptance of an XACT starts its first reader invocation (R129). -/
theorem txAccept_last_of_requesting {s : State} (hput : s.putting) (hc : s.curop = .xact) (hlast : s.txidx + 1 = s.txLen + 5) :
    txAccept s =
      takeHeld (startInvocation { s with tx := s.tx ++ (s.txFrame.drop s.txidx).take 1, txidx := s.txidx + 1 }) := by
  obtain ⟨b, hb⟩ := exists_txFrame_byte (s := s) (by omega)
  rw [txAccept_of_putting hput hb, if_pos hlast, take_one_drop hb]
  simp only [leaveTx, putByte, hc]

/-- An XACT at the start of its request, among any delays, up to its first reader invocation. -/
theorem drive_whole_request {es : List Stimulus} (rest : List Stimulus) {s : State} (hput : s.putting) (hc : s.curop = .xact)
    (hbusy : s.status.busy = true) (hstart : s.txidx = 0) (hes : ∀ e ∈ es, e.isTransport = true)
    (hcount : es.count .txReady = s.txLen + 4) :
    drive (es ++ .txReady :: rest) s = drive rest (takeHeld (s.listeningAfter es)) := by
  rw [drive_of_requesting _ hput hc hbusy hes (by omega), drive_cons, if_pos ⟨hbusy, rfl⟩, deliver,
    txAccept_last_of_requesting (s := s.requestingAfter es) hput hc
      (by simp only [State.requestingAfter, State.sendingAfter]; omega)]
  have hkept : (s.requestingAfter es).txFrame = s.txFrame := rfl
  have hframe : s.txFrame.take (s.txLen + 4) ++ (s.txFrame.drop (s.txLen + 4)).take 1 = s.txFrame := by
    rw [← List.take_add, List.take_of_length_le (length_txFrame s).le]
  simp only [hkept]
  simp [State.requestingAfter, State.sendingAfter, State.listeningAfter, hstart, hcount, hframe]

/-- An accepted XACT whose request has been put among the stimuli `es`. -/
theorem exec_xact_of_request {s : State} {es rest : List Stimulus} (hbusy : s.status.busy = false) (hdue : s.due = none)
    (hfits : s.txLen ≤ s.bmax) (hes : ∀ e ∈ es, e.isTransport = true) (hcount : es.count .txReady = s.txLen + 4)
    (hinbox : s.inbox = es ++ .txReady :: rest) :
    exec .xact s = .next (drive rest (takeHeld ((acceptXact s).listeningAfter es))) := by
  rw [exec_xact_of_fits hbusy hfits, runCommand, acceptXact_inbox, hinbox,
    drive_whole_request rest (s := acceptXact s) ⟨rfl, hdue⟩ rfl rfl rfl hes hcount]

theorem isTransport_of_isSilent {e : Stimulus} (h : e.isSilent = true) : e.isTransport = true := by
  cases e with
  | quiet | txReady | tick | lagTick => rfl
  | _ => cases h

/-- Silent stimuli bring no byte. -/
theorem flatMap_bytes_of_silent {es : List Stimulus} (h : ∀ e ∈ es, e.isSilent = true) : es.flatMap Stimulus.bytes = [] := by
  rw [List.flatMap_eq_nil_iff]
  intro e he
  have hsilent := h e he
  cases e with
  | rx bytes => cases hsilent
  | _ => rfl

/-- An accepted XACT whose request has met no delay, at the start of its first reader invocation. -/
def State.requested (s : State) : State :=
  startInvocation { acceptXact s with txidx := s.txLen + 5, tx := s.tx ++ (acceptXact s).txFrame }

/-- After a request without delays the reader takes the held bytes. -/
theorem exec_xact_of_prompt_request {s : State} {rest : List Stimulus} (hbusy : s.status.busy = false) (hdue : s.due = none)
    (hfits : s.txLen ≤ s.bmax) (hinbox : s.inbox = List.replicate (s.txLen + 5) Stimulus.txReady ++ rest) :
    exec .xact s = .next (drive rest (takeBytes s.rxq (s.requested.standing .hunt1 []))) := by
  have hsplit : s.inbox = List.replicate (s.txLen + 4) Stimulus.txReady ++ .txReady :: rest := by
    rw [hinbox, List.replicate_succ', List.append_assoc, List.singleton_append]
  have hsilent : ∀ e ∈ List.replicate (s.txLen + 4) Stimulus.txReady, e.isSilent = true := by
    intro e he
    rw [List.eq_of_mem_replicate he]
    rfl
  have hlistening : (acceptXact s).listeningAfter (List.replicate (s.txLen + 4) Stimulus.txReady) = s.requested := by
    simp [State.listeningAfter, State.requested, flatMap_bytes_of_silent hsilent, List.countP_replicate, Stimulus.isTick]
  rw [exec_xact_of_request hbusy hdue hfits (fun e he => isTransport_of_isSilent (hsilent e he))
    List.count_replicate_self hsplit, hlistening]
  rfl

end Sys2Proof.Machine
end

section
/-! XACT after its request: the frame that ends it, behind noise and held bytes, and the silent line, with `NoData` and the deadline
(R127 to R137). -/

namespace Sys2Proof.Machine

/-! ### The terminal frame -/

/-- Settles O39: both frames are of class FREQ, terminal under EXPECT bit 0. -/
theorem freqFramesEndProbeWithData : Obligations.FreqFramesEndProbeWithData := by
  intro s dst src hfresh hlags hc hexpect hlmax
  refine ⟨?query, ?report⟩
  case query =>
    intro hwf
    rw [exec_frame rfl, Instr.wireBytes,
      arrive_terminal hfresh hlags hc (span_plain_of_wellFormed hwf rfl rfl) (by simp; omega) hexpect rfl]
    rfl
  case report =>
    intro payload hwf hfits
    rw [exec_frame rfl, Instr.wireBytes,
      arrive_terminal hfresh hlags hc (span_plain_of_wellFormed hwf rfl rfl) (by simpa using hfits) hexpect rfl]
    rfl

theorem raise_busy (k : Kind) (info : Info) (s : State) : (raise k info s).status.busy = false := by cases info <;> rfl

/-- An XACT in which `ReadFrame()` finds a terminal frame ends with its outcome and leaves the bytes after it (R116, R130). -/
theorem takeBytes_standing_terminal {s : State} {bytes rest : List Byte} {rs : ReaderState} {acc : List Byte} {f : Frame}
    {k : Kind} (hreading : s.reading) (hlags : s.lags = false) (hc : s.curop = .xact)
    (hterm : terminal (classify f) s.expect = true) (hk : outcomeOf (classify f) = some k)
    (hread : readFrom s.lmax rs acc bytes = .ended (.frame f) false rest) :
    takeBytes bytes (s.standing rs acc) =
      { raise k (if k.carriesFrame then .frame f else .nothing) (s.heard (f.dst :: f.src :: f.body)) with rxq := rest } := by
  have hreached := takeBytes_standing_reached bytes rs acc hreading
  rw [hread] at hreached
  obtain ⟨span, ⟨-, hend⟩ | ⟨hfalse, -⟩, ht⟩ := hreached
  · have hidle : ¬ (raise k (if k.carriesFrame then .frame f else .nothing) (s.heard span)).reading :=
      fun ⟨ho, _⟩ => nomatch (raise_opst k _ _).symm.trans ho
    rw [ht, State.atReturn_frame, invocationReturns_xact (s := s.heard span) hlags hc, xactInvocationEnd,
      if_pos (by exact hterm), raiseTerminal_of_outcome hk, takeBytes_waits _ _ hidle, spanEnd_eq_frame_iff.1 hend.symm]
  · cases hfalse

/-- Where `ReadFrame()` ends beyond the bytes `xs`, the block has taken them all and stands where `ReadFrame()` stands. -/
theorem takeBytes_standing_pending {s : State} {xs ys rest : List Byte} {rs : ReaderState} {acc : List Byte} {r : ReadEnd}
    {ovf : Bool} (hreading : s.reading) (hread : readFrom s.lmax rs acc (xs ++ ys) = .ended r ovf rest)
    (hlt : rest.length < ys.length) :
    ∃ rs' acc', takeBytes xs (s.standing rs acc) = ({ s with rxq := [] } : State).standing rs' acc' ∧
      readFrom s.lmax rs' acc' ys = .ended r ovf rest := by
  obtain ⟨rs', acc', hpending, hended⟩ := readFrom_pending_of_ended hread hlt
  have hreached := takeBytes_standing_reached xs rs acc hreading
  rw [hpending] at hreached
  exact ⟨rs', acc', hreached, hended⟩

/-- The outcomes of terminal frames: DATA with the frame, of class FREQ, or ACK or NAK with none (R116, R191). -/
theorem outcome_of_terminal {c : FrameClass} {k : Kind} (hk : outcomeOf c = some k) :
    (k = .data ∧ c = .freq) ∨ (k ≠ .data ∧ k.carriesFrame = false) := by
  cases c with
  | freq => exact .inl ⟨(Option.some.inj hk).symm, rfl⟩
  | ack | nak =>
    obtain rfl := Option.some.inj hk
    exact .inr ⟨nofun, rfl⟩
  | other | noopc => cases hk

/-- Settles O27: `ReadFrame()` finds the frame in the bytes that the reader meets after the request. Where the frame reaches beyond
the held bytes, the block stands at their end until the others arrive. -/
theorem xactEndsOnTerminalFrame : Obligations.XactEndsOnTerminalFrame := by
  intro s z dst src body left k rest hbusy ⟨hlags, hdue⟩ hfits hnoise hplain hroom hterm hk t
  have hread : readFrame s.lmax (z ++ encodeFrame dst src body ++ left) = .ended (.frame ⟨dst, src, body⟩) false left :=
    readFrame_behind_noise left hnoise hplain hroom
  have hended (q : List Byte) : { raise k (if k.carriesFrame then .frame ⟨dst, src, body⟩ else .nothing)
      (({ s.requested with rxq := q } : State).heard (dst :: src :: body)) with rxq := left, inbox := rest } = t := by
    rcases outcome_of_terminal hk with ⟨rfl, hclass⟩ | ⟨hdata, hcarries⟩
    · simp only [t, ← hclass]
      rfl
    · simp only [t, if_neg hdata, hcarries]
      rfl
  refine ⟨?held, ?arriving⟩
  case held =>
    intro hrxq hinbox
    rw [exec_xact_of_prompt_request hbusy hdue hfits hinbox, hrxq,
      takeBytes_standing_terminal (s := s.requested) ⟨rfl, hdue⟩ hlags rfl hterm hk hread,
      drive_idle _ _ (by exact raise_busy k _ _)]
    exact congrArg _ (hended s.rxq)
  case arriving =>
    intro bs hsplit hlt hinbox
    have hlonger : left.length < bs.length := by
      have hlength := congrArg List.length hsplit
      simp only [List.length_append] at hlength hlt
      omega
    rw [← hsplit] at hread
    obtain ⟨rs, acc, hheld, hrest⟩ := takeBytes_standing_pending (s := s.requested) ⟨rfl, hdue⟩ hread hlonger
    have harrive : arrive bs (({ s.requested with rxq := [] } : State).standing rs acc) = _ :=
      takeBytes_standing_terminal (s := { s.requested with rxq := bs }) ⟨rfl, hdue⟩ hlags rfl hterm hk hrest
    rw [exec_xact_of_prompt_request hbusy hdue hfits hinbox, hheld, drive_cons, if_pos ⟨rfl, rfl⟩, deliver, harrive,
      drive_idle _ _ (by exact raise_busy k _ _)]
    exact congrArg _ (hended bs)

/-! ### A silent line -/

/-- Settles O36: in a block that spends no time of its own the deadline check comes at once. -/
theorem noDataWithinXactChecksDeadline : Obligations.NoDataWithinXactChecksDeadline := by
  intro s es ho ⟨hlags, hdue⟩ hc hrtcnt hrxq hinbox
  rw [step_transport rfl hinbox, deliver,
    quietCycle_of_expired (s := { s with inbox := es }) ⟨⟨ho, hdue⟩, hrtcnt, hrxq⟩ hlags,
    invocationEnd_timeout_xact (s := { s with inbox := es }) hc hlags]
  refine ⟨?goesOn, ?unexpected, ?timeout⟩
  case goesOn =>
    intro hd
    rw [deadlineCheck_before (s := { s with inbox := es }) hd]
    simp only [startInvocation, startRead, ho]
  case unexpected =>
    intro hd hux
    rw [deadlineCheck_after (s := { s with inbox := es }) hd, if_pos hux]
    rfl
  case timeout =>
    intro hd hux
    rw [deadlineCheck_after (s := { s with inbox := es }) hd, if_neg (by simp [hux])]
    rfl

/-- The read timeout that is left after a cycle with no byte in an XACT that goes on: a read that has run out starts anew (R132). -/
def State.readLeft (s : State) : Word := if s.rtcnt = 0 then s.rdtmo else s.rtcnt

theorem toNat_readLeft (s : State) :
    s.readLeft.toNat = if s.rtcnt.toNat = 0 then s.rdtmo.toNat else s.rtcnt.toNat := by
  rw [State.readLeft, apply_ite BitVec.toNat]
  exact if_congr BitVec.toNat_inj.symm rfl rfl

theorem readLeft_of_readLeft (s : State) : ({ s with rtcnt := s.readLeft } : State).readLeft = s.readLeft := by
  by_cases hrt : s.rtcnt = 0
  · simp only [State.readLeft, if_pos hrt, ite_self]
  · simp only [State.readLeft, if_neg hrt]

section
variable {s : State} (hfresh : s.readerFresh) (hlags : s.lags = false) (hc : s.curop = .xact)
  (hgo : s.rtcnt ≠ 0 ∨ s.dlcnt ≠ 0)
include hfresh hlags hc hgo

/-- A cycle with no byte, before the deadline or before the pending read has run out. -/
theorem quietCycle_of_xact : quietCycle s = { s with rtcnt := s.readLeft } := by
  obtain ⟨hreading, hrs, hblen, hrxq⟩ := hfresh
  by_cases hrt : s.rtcnt = 0
  · rw [quietCycle_of_expired ⟨hreading, hrt, hrxq⟩ hlags, invocationEnd_timeout_xact hc hlags,
      deadlineCheck_before (hgo.resolve_left (not_not.2 hrt)), State.readLeft, if_pos hrt, startInvocation, ← hrs, ← hblen,
      ← hreading.1]
    rfl
  · rw [quietCycle_of_not_expired fun h => hrt h.2.1, State.readLeft, if_neg hrt]

/-- Such a cycle, and then a tick, which counts for the pending read and for the deadline (R27, R28). -/
theorem tickAll_quietCycle_of_xact :
    tickAll (quietCycle s) =
      { s with ticks := s.ticks + 1, dlcnt := satDec s.dlcnt, rtcnt := satDec s.readLeft } := by
  have hquiet := quietCycle_of_xact hfresh hlags hc hgo
  have hgo' : s.readLeft ≠ 0 ∨ s.dlcnt ≠ 0 := hgo.imp_left fun hrt => by rwa [State.readLeft, if_neg hrt]
  have hagain := quietCycle_of_xact (s := { s with rtcnt := s.readLeft }) hfresh hlags hc hgo'
  rw [readLeft_of_readLeft] at hagain
  rw [tickAll, hquiet, hagain]
  simp only [tickRead, tickDeadline, hc, if_true, if_pos hfresh.1]

end

/-- An XACT on a silent line ends with TIMEOUT when the read that is pending at the deadline has run out: the first one, or a later
one, which began before the deadline (R132, R134). -/
theorem drive_silentCycles_xact {n : Nat} {s : State} (hbusy : s.status.busy = true) (hux : s.status.uxseen = false)
    (hc : s.curop = .xact) (hlags : s.lags = false) (hfresh : s.readerFresh) (hread : s.rtcnt.toNat < n)
    (hdeadline : s.dlcnt.toNat ≠ 0 → s.dlcnt.toNat + s.rdtmo.toNat < n) :
    ∃ k es, s.dlcnt.toNat ≤ k ∧ (k = s.rtcnt.toNat ∨ s.dlcnt.toNat ≠ 0 ∧ k ≤ s.dlcnt.toNat + s.rdtmo.toNat) ∧
      drive (silentCycles n) s =
        raise .timeout .nothing { s with rtcnt := 0, dlcnt := 0, ticks := s.ticks + k, inbox := es } := by
  induction n generalizing s with
  | zero => omega
  | succ n ih =>
    by_cases hgo : s.rtcnt ≠ 0 ∨ s.dlcnt ≠ 0
    case pos =>
      have hbusy' : (quietCycle s).status.busy = true := by rw [quietCycle_of_xact hfresh hlags hc hgo]; exact hbusy
      rw [silentCycles, drive_cons, if_pos ⟨hbusy, rfl⟩, deliver, drive_cons, if_pos ⟨hbusy', rfl⟩, deliver,
        tickAll_quietCycle_of_xact hfresh hlags hc hgo]
      have hdl : (satDec s.dlcnt).toNat = s.dlcnt.toNat - 1 := toNat_satDec s.dlcnt
      have hrt : (satDec s.readLeft).toNat = s.readLeft.toNat - 1 := toNat_satDec s.readLeft
      have hleft := toNat_readLeft s
      have hgo' : s.rtcnt.toNat ≠ 0 ∨ s.dlcnt.toNat ≠ 0 :=
        hgo.imp (mt (BitVec.eq_of_toNat_eq (y := 0))) (mt (BitVec.eq_of_toNat_eq (y := 0)))
      obtain ⟨k, es, hle, hend, hdrive⟩ := ih (s := { s with
        ticks := s.ticks + 1, dlcnt := satDec s.dlcnt, rtcnt := satDec s.readLeft }) hbusy hux hc hlags hfresh
        (by simp only [hrt]; split_ifs at hleft <;> omega) (by simp only [hdl]; omega)
      simp only [hdl, hrt] at hle hend
      refine ⟨k + 1, es, by omega, by split_ifs at hleft <;> omega, ?_⟩
      simp only [hdrive, Nat.add_assoc, Nat.add_comm 1 k]
    case neg =>
      obtain ⟨hrt, hd⟩ : s.rtcnt = 0 ∧ s.dlcnt = 0 := by simpa using hgo
      obtain ⟨hreading, -, -, hrxq⟩ := hfresh
      refine ⟨0, .tick :: silentCycles n, by simp [hd], .inl (by simp [hrt]), ?_⟩
      rw [silentCycles, drive_cons, if_pos ⟨hbusy, rfl⟩, deliver, quietCycle_of_expired ⟨hreading, hrt, hrxq⟩ hlags,
        invocationEnd_timeout_xact hc hlags, deadlineCheck_after hd, if_neg (by simp [hux]), drive_idle _ _ rfl]
      simp [raise, clearFrame, hrt, hd]

/-- Settles O28: the request leaves `DEADLINE - d` ticks of the deadline, and the first read begins with it. -/
theorem xactOnSilentLineEndsWithinBound : Obligations.XactOnSilentLineEndsWithinBound := by
  intro s es n hbusy ⟨hlags, hdue⟩ hfits hrxq hsilent hcount hlt hinbox d
  have hbytes : s.rxq ++ es.flatMap Stimulus.bytes = [] := by rw [hrxq, flatMap_bytes_of_silent hsilent]; rfl
  have hheld : takeHeld ((acceptXact s).listeningAfter es) = (acceptXact s).listeningAfter es := by
    have hrxq' : ((acceptXact s).listeningAfter es).rxq = [] := hbytes
    rw [takeHeld, hrxq', takeBytes_nil_of_none_held hrxq']
  have hdl : ((acceptXact s).listeningAfter es).dlcnt.toNat = s.deadline.toNat - d := toNat_satDec_iterate d s.deadline
  obtain ⟨k, left, hle, hend, hdrive⟩ := drive_silentCycles_xact (n := n) (s := (acceptXact s).listeningAfter es) rfl rfl rfl
    hlags ⟨⟨rfl, hdue⟩, rfl, rfl, hbytes⟩ (show s.rdtmo.toNat < n by omega)
    fun _ => show _ + s.rdtmo.toNat < n by omega
  have hexec := exec_xact_of_request hbusy hdue hfits (fun e he => isTransport_of_isSilent (hsilent e he)) hcount hinbox
  rw [hheld, hdrive] at hexec
  rw [hdl] at hle hend
  have hupper : k ≤ s.deadline.toNat - d + s.rdtmo.toNat := by
    rcases hend with hk | ⟨-, hk⟩
    · rw [hk]; exact Nat.le_add_left _ _
    · exact hk
  refine ⟨_, hexec, rfl, rfl, rfl, rfl, rfl, rfl, ?lower, ?upper⟩
  case lower =>
    change s.ticks + s.deadline.toNat ≤ s.ticks + d + k
    omega
  case upper =>
    change s.ticks + d + k ≤ s.ticks + max s.deadline.toNat d + s.rdtmo.toNat
    omega

end Sys2Proof.Machine
end

section
/-! How a running XACT can end (R127, R130, R132, R139): what it has come to, kept from one operation of the block to the next. -/

namespace Sys2Proof.Machine

/-! ### What a running XACT has come to -/

/-- The outcome of an XACT with the mask `e` in EXPECT: that of a terminal frame which `e` selects, or that of the deadline (R116,
R130, R132). -/
def XactOutcome (e : BitVec 3) (t : State) : Prop :=
  (t.result.kind = .data ∧ e.getLsbD 0 = true) ∨ (t.result.kind = .ack ∧ e.getLsbD 1 = true) ∨
  (t.result.kind = .nak ∧ e.getLsbD 2 = true) ∨
  (t.result.kind = .unexpected ∧ t.dlcnt = 0 ∧ t.status.uxseen = true) ∨
  (t.result.kind = .timeout ∧ t.dlcnt = 0 ∧ t.status.uxseen = false)

/-- What an XACT with the mask `e` has come to: it goes on, or it has ended with DONE and its outcome (R191). -/
def XactReached (e : BitVec 3) (t : State) : Prop :=
  (t.curop = .xact ∧ t.expect = e) ∨ (t.curop = .none ∧ t.opst = .idle ∧ t.status.done = true ∧ XactOutcome e t)

/-! ### Outcomes and the deadline check -/

theorem xactReached_of_ended {e : BitVec 3} {k : Kind} {info : Info} {s : State} (h : XactOutcome e (raise k info s)) :
    XactReached e (raise k info s) := by
  cases info <;> exact .inr ⟨rfl, rfl, rfl, h⟩

/-- A step that comes next is taken now, or waits while the XACT goes on. -/
theorem orLater_xactReached {e : BitVec 3} {a : Due} {now : State → State} {s : State} (hc : s.curop = .xact)
    (he : s.expect = e) (hnow : XactReached e (now s)) : XactReached e (orLater a now s) := by
  rcases orLater_cases a now s with ⟨-, h⟩ | ⟨-, h⟩ <;> rw [h]
  · exact hnow
  · exact .inl ⟨hc, he⟩

section
variable {s : State} (hc : s.curop = .xact)
include hc

theorem deadlineCheck_xactReached : XactReached s.expect (deadlineCheck s) := by
  rcases deadlineCheck_cases s with ⟨-, h⟩ | ⟨hd, hux, h⟩ | ⟨hd, hux, h⟩ <;> rw [h]
  · exact .inl ⟨hc, rfl⟩
  · exact xactReached_of_ended (.inr (.inr (.inr (.inl ⟨rfl, hd, hux⟩))))
  · exact xactReached_of_ended (.inr (.inr (.inr (.inr ⟨rfl, hd, hux⟩))))

theorem checkNext_xactReached : XactReached s.expect (checkNext s) :=
  orLater_xactReached hc rfl (deadlineCheck_xactReached hc)

/-- A terminal frame raises the outcome that the mask selects (R116). -/
theorem raiseTerminal_xactReached {f : Frame} (hterm : terminal (classify f) s.expect = true) :
    XactReached s.expect (raiseTerminal f s) := by
  rcases raiseTerminal_cases f s with ⟨hk, h⟩ | ⟨hk, h⟩ | ⟨hk, h⟩ | ⟨-, h⟩ | ⟨-, h⟩ <;> rw [h]
  · rw [hk] at hterm
    exact xactReached_of_ended (.inl ⟨rfl, hterm⟩)
  · rw [hk] at hterm
    exact xactReached_of_ended (.inr (.inl ⟨rfl, hterm⟩))
  · rw [hk] at hterm
    exact xactReached_of_ended (.inr (.inr (.inl ⟨rfl, hterm⟩)))
  · exact .inl ⟨hc, rfl⟩
  · exact .inl ⟨hc, rfl⟩

/-! ### The reader -/

theorem invocationEnd_xactReached (r : ReadEnd) : XactReached s.expect (invocationEnd r s) := by
  simp only [invocationEnd, hc]
  rcases xactInvocationEnd_cases r s with ⟨f, -, hterm, h⟩ | ⟨f, -, -, h⟩ | ⟨-, h⟩ <;> rw [h]
  · exact raiseTerminal_xactReached hc hterm
  · exact checkNext_xactReached (s := recordUnexpected f s) hc
  · exact checkNext_xactReached hc

theorem invocationReturns_xactReached (r : ReadEnd) : XactReached s.expect (invocationReturns r s) :=
  orLater_xactReached hc rfl (invocationEnd_xactReached hc r)

theorem spanComplete_xactReached : XactReached s.expect (spanComplete s) := by
  unfold spanComplete
  split
  · exact invocationReturns_xactReached hc _
  · exact invocationReturns_xactReached (s := countMalformed s) hc .malformed

theorem readByte_xactReached (b : Byte) : XactReached s.expect (readByte b s) := by
  rcases readByte_cases b s with ⟨-, -, h⟩ | ⟨-, -, h⟩ | ⟨-, -, h⟩ | ⟨-, -, h⟩ | ⟨-, -, h⟩ | ⟨-, -, -, h⟩ | ⟨-, -, -, h⟩ <;>
    rw [h]
  · exact .inl ⟨hc, rfl⟩
  · exact .inl ⟨hc, rfl⟩
  · exact .inl ⟨hc, rfl⟩
  · exact .inl ⟨hc, rfl⟩
  · exact spanComplete_xactReached hc
  · exact .inl ⟨hc, rfl⟩
  · exact invocationReturns_xactReached
      (s := countMalformed { s with status := { s.status with ovf := true } }) hc .malformed

theorem quietCycle_xactReached : XactReached s.expect (quietCycle s) := by
  unfold quietCycle
  split
  · exact invocationReturns_xactReached hc .timeout
  · exact .inl ⟨hc, rfl⟩

end

/-- While the block takes bytes an XACT may end, and then it leaves the others. -/
theorem takeBytes_xactReached (bs : List Byte) {e : BitVec 3} {s : State} (h : XactReached e s) :
    XactReached e (takeBytes bs s) := by
  induction bs generalizing s with
  | nil => exact h
  | cons b bs ih =>
    by_cases hreading : s.reading
    · rw [takeBytes_cons b bs s hreading]
      rcases h with ⟨hc, rfl⟩ | ⟨-, ho, -⟩
      · exact ih (readByte_xactReached hc b)
      · exact nomatch ho.symm.trans hreading.1
    · rw [takeBytes_waits _ s hreading]
      exact h

/-- A tick ends no XACT, and none that has ended counts it (R27). -/
theorem tick_xactReached {e : BitVec 3} {s : State} (h : XactReached e s) : XactReached e (tickRead (tickDeadline s)) := by
  rcases h with ⟨hc, he⟩ | ⟨hc, ho, hdone, houtcome⟩
  · exact .inl ⟨hc, he⟩
  · have hdl : (tickRead (tickDeadline s)).dlcnt = s.dlcnt := if_neg (by rw [hc]; nofun)
    refine .inr ⟨hc, ho, hdone, ?_⟩
    unfold XactOutcome at houtcome ⊢
    rwa [hdl]

/-! ### One stimulus -/

section
variable {s : State} (hc : s.curop = .xact)
include hc

theorem txAccept_xactReached : XactReached s.expect (txAccept s) := by
  rcases txAccept_cases s with h | ⟨b, -, -, ⟨-, h⟩ | ⟨-, h⟩⟩ <;> rw [h]
  · exact .inl ⟨hc, rfl⟩
  · have hleave : leaveTx (putByte b s) = takeHeld (startInvocation (putByte b s)) := by simp only [leaveTx, putByte, hc]
    rw [hleave]
    exact takeBytes_xactReached _ (.inl ⟨hc, rfl⟩)
  · exact .inl ⟨hc, rfl⟩

/-- The step that is due belongs to the XACT (R206). -/
theorem settle_xactReached (hdueOk : s.dueOk = true) : XactReached s.expect (settle s) := by
  cases hdue : s.due with
  | none =>
    rw [settle_none s hdue]
    exact .inl ⟨hc, rfl⟩
  | some a =>
    rw [settle_some a s hdue]
    refine takeBytes_xactReached _ ?_
    cases a with
    | returned r => exact invocationEnd_xactReached (s := { s with due := none }) hc r
    | check => exact deadlineCheck_xactReached (s := { s with due := none }) hc
    | sent =>
      obtain ⟨hsend, -⟩ := (dueOk_sent_iff hdue).1 hdueOk
      exact nomatch hc.symm.trans hsend

/-- Every stimulus but the reset input leaves a running XACT running, or ends it with its outcome. -/
theorem deliver_xactReached {e : Stimulus} (hbusy : s.status.busy = true) (hdueOk : s.dueOk = true) (hreset : e ≠ .reset) :
    XactReached s.expect (deliver e s) := by
  have hgoesOn : XactReached s.expect s := .inl ⟨hc, rfl⟩
  cases e with
  | write n d => rwa [deliver, hostWrite_of_busy n d hbusy]
  | read n => exact .inl ⟨hc, rfl⟩
  | rx bytes => exact takeBytes_xactReached _ (.inl ⟨hc, rfl⟩)
  | quiet => exact quietCycle_xactReached hc
  | txReady => exact txAccept_xactReached hc
  | tick => exact tick_xactReached (quietCycle_xactReached hc)
  | lagTick =>
    rw [deliver, tickLag]
    split
    · exact tick_xactReached (quietCycle_xactReached hc)
    · exact .inl ⟨hc, rfl⟩
  | lags on => exact .inl ⟨hc, rfl⟩
  | settle => exact settle_xactReached hc hdueOk
  | reset => exact absurd rfl hreset

end

/-- A step of a running XACT takes the reset input, or leaves it running, or ends it with its outcome. -/
theorem step_xactReached {s t : State} (h : s.Inv) (hc : s.curop = .xact) (hstep : step s = .next t) :
    (∃ es, s.inbox = .reset :: es ∧ t = resetBlock { s with inbox := es }) ∨ XactReached s.expect t := by
  have hbusy : s.status.busy = true := h.taking.busy_of_curop (by simp [hc])
  rcases step_cases hstep with ⟨-, rfl⟩ | ⟨e, es, hinbox, ⟨i, -, hexec⟩ | rfl⟩
  · exact .inr (.inl ⟨hc, rfl⟩)
  · rcases exec_cases_of_busy (s := { s with inbox := es }) hbusy hexec with rfl | rfl
    · exact .inr (.inl ⟨hc, rfl⟩)
    · exact .inr (takeBytes_xactReached _ (.inl ⟨hc, rfl⟩))
  · by_cases hreset : e = .reset
    · subst hreset
      exact .inl ⟨es, hinbox, rfl⟩
    · exact .inr (deliver_xactReached (s := { s with inbox := es }) hc hbusy h.due_place hreset)

/-- Settles O29: the invariant, which the step keeps, adds that a block no longer busy runs no XACT, and that VALID agrees with the
outcome (R12, R23). -/
theorem xactEndsOnlyInItsOutcomes : Obligations.XactEndsOnlyInItsOutcomes := by
  intro s t h hc hstep hidle
  have ht : t.Inv := stepKeepsInvariant s t h hstep
  have hvalid : t.result.valid = t.result.kind.carriesFrame := ht.valid_kind hidle
  rcases step_xactReached h hc hstep with ⟨es, hinbox, rfl⟩ | ⟨hrunning, -⟩ | ⟨-, -, hdone, houtcome⟩
  · exact .inl ⟨⟨es, hinbox⟩, rfl, rfl⟩
  · exact nomatch hrunning.symm.trans (ht.taking.idle_of_not_busy hidle).1
  · refine .inr ⟨hdone, ?_⟩
    rcases houtcome with hdata | hack | hnak | ⟨hk, hd, hux⟩ | ⟨hk, hd, hux⟩
    · exact .inl hdata
    · exact .inr (.inl hack)
    · exact .inr (.inr (.inl hnak))
    · exact .inr (.inr (.inr (.inl ⟨hk, hd, hux, by rw [hvalid, hk]; rfl⟩)))
    · exact .inr (.inr (.inr (.inr ⟨hk, hd, hux, by rw [hvalid, hk]; rfl⟩)))

end Sys2Proof.Machine
end

section
/-! The fields of a request in packed BCD and the requests of a session as frames of the table (R145 to R153, R170 to R174). -/

namespace Sys2Proof.Machine

/-! ### Packed BCD (R145) -/

/-- Two digits fill a byte: the tens above the units. -/
theorem toNat_bcd {n : Nat} (hn : n ≤ 99) : (bcd n).toNat = 16 * (n / 10) + n % 10 := by
  rw [bcd, BitVec.toNat_ofNat]
  omega

theorem isBcd_bcd {n : Nat} (hn : n ≤ 99) : isBcd (bcd n) = true := by
  have htens : (16 * (n / 10) + n % 10) / 16 ≤ 9 := by omega
  have hunits : (16 * (n / 10) + n % 10) % 16 ≤ 9 := by omega
  rw [isBcd, toNat_bcd hn, decide_eq_true htens, decide_eq_true hunits, Bool.and_self]

theorem ne_of_isBcd {b c : Byte} (hb : isBcd b = true) (hc : isBcd c = false) : b ≠ c := by
  rintro rfl
  exact nomatch hb.symm.trans hc

/-- Settles O57: the four excluded bytes have the high nibble `F`, which is no digit. -/
theorem bcdDigits : Obligations.BcdDigits := by
  intro n hn
  have hdigits : isBcd (bcd n) = true := isBcd_bcd hn
  exact ⟨toNat_bcd hn, hdigits, ne_of_isBcd hdigits (by decide), ne_of_isBcd hdigits (by decide),
    ne_of_isBcd hdigits (by decide), ne_of_isBcd hdigits (by decide)⟩

/-! ### When a request is built, and which -/

section
variable {p : SessionInput}

/-- The set-date request is built exactly for a date in the domain of `bcd` (R148, R153, R172, U6). -/
theorem dateRequest_eq_some_iff {r : Request} : dateRequest p = some r ↔
    (p.time.year ≤ 9999 ∧ p.time.month ≤ 99 ∧ p.time.day ≤ 99) ∧
    r = ⟨p.radioAddr, p.ctrlAddr,
      extOpcode p p.profile.dateOpcode ++ bcdYear p.time.year ++ [bcd p.time.month, bcd p.time.day], 6, p.ackDeadline⟩ := by
  rw [dateRequest, Option.ite_none_right_eq_some, Option.some_inj, eq_comm (a := r)]

/-- The set-time request is built exactly when its seconds can be sent and hour and minute are in the domain of `bcd` (R149, R174,
U6). -/
theorem timeRequest_eq_some_iff {r : Request} : timeRequest p = some r ↔
    ∃ sec, secondBytes p = some sec ∧ (p.time.hour ≤ 99 ∧ p.time.minute ≤ 99) ∧
      r = ⟨p.radioAddr, p.ctrlAddr,
        extOpcode p p.profile.timeOpcode ++ [bcd p.time.hour, bcd p.time.minute] ++ sec, 6, p.ackDeadline⟩ := by
  cases hseconds : secondBytes p with
  | none => simp [timeRequest, hseconds]
  | some sec => simp [timeRequest, hseconds, eq_comm (a := r)]

/-- A profile with seconds sends exactly the second that the time carries (R149, R174). -/
theorem secondBytes_eq_some_iff_of_hasSeconds {bytes : List Byte} (hprofile : p.profile.hasSeconds = true) :
    secondBytes p = some bytes ↔ ∃ sec, p.time.second = some sec ∧ sec ≤ 99 ∧ bytes = [bcd sec] := by
  cases hsecond : p.time.second with
  | none => simp [secondBytes, hprofile, hsecond]
  | some sec => simp [secondBytes, hprofile, hsecond, eq_comm (a := bytes)]

/-- A profile without seconds sends no seconds byte, whatever the time carries (R149, R174). -/
theorem secondBytes_of_not_hasSeconds (hprofile : p.profile.hasSeconds = false) : secondBytes p = some [] := by
  simp [secondBytes, hprofile]

/-! ### Their bytes on the bus -/

/-- The request of PROBE is the frame FREQ_QUERY (R146, R170). -/
theorem encodeFrame_probeRequest (p : SessionInput) :
    encodeFrame (probeRequest p).dst (probeRequest p).src (probeRequest p).body =
      (Instr.freqQuery p.radioAddr p.ctrlAddr).wireBytes := rfl

/-- The body of SETDATE is that of the frame SET_DATE (R148, R153, R172). -/
theorem encodeFrame_dateBody (p : SessionInput) :
    encodeFrame p.radioAddr p.ctrlAddr
        (extOpcode p p.profile.dateOpcode ++ bcdYear p.time.year ++ [bcd p.time.month, bcd p.time.day]) =
      (Instr.setDate p.radioAddr p.ctrlAddr p.profile.modelSubcode p.profile.dateOpcode
        (bcd (p.time.year / 100)) (bcd (p.time.year % 100)) (bcd p.time.month) (bcd p.time.day)).wireBytes := rfl

/-- The body of SETTIME with a seconds byte is that of the frame SET_TIME_HMS (R149, R174). -/
theorem encodeFrame_timeBody_seconds (p : SessionInput) (sec : Nat) :
    encodeFrame p.radioAddr p.ctrlAddr
        (extOpcode p p.profile.timeOpcode ++ [bcd p.time.hour, bcd p.time.minute] ++ [bcd sec]) =
      (Instr.setTimeHMS p.radioAddr p.ctrlAddr p.profile.modelSubcode p.profile.timeOpcode
        (bcd p.time.hour) (bcd p.time.minute) (bcd sec)).wireBytes := rfl

/-- The body of SETTIME without a seconds byte is that of the frame SET_TIME_HM (R149, R174). -/
theorem encodeFrame_timeBody_noSeconds (p : SessionInput) :
    encodeFrame p.radioAddr p.ctrlAddr
        (extOpcode p p.profile.timeOpcode ++ [bcd p.time.hour, bcd p.time.minute] ++ []) =
      (Instr.setTimeHM p.radioAddr p.ctrlAddr p.profile.modelSubcode p.profile.timeOpcode
        (bcd p.time.hour) (bcd p.time.minute)).wireBytes := rfl

end

/-- Settles O58: each request that is built has the body of its frame, the set-time request by what the profile makes its seconds
byte. -/
theorem sessionRequestsAreTableFrames : Obligations.SessionRequestsAreTableFrames := by
  intro p
  refine ⟨encodeFrame_probeRequest p, rfl, ?date, ?time⟩
  case date =>
    intro r hdate
    obtain ⟨-, rfl⟩ := dateRequest_eq_some_iff.1 hdate
    exact ⟨rfl, encodeFrame_dateBody p⟩
  case time =>
    intro r htime
    obtain ⟨bytes, hbytes, -, rfl⟩ := timeRequest_eq_some_iff.1 htime
    refine ⟨rfl, fun hprofile => ?_, fun hprofile => ?_⟩
    · obtain ⟨sec, hsecond, -, rfl⟩ := (secondBytes_eq_some_iff_of_hasSeconds hprofile).1 hbytes
      exact ⟨sec, hsecond, encodeFrame_timeBody_seconds p sec⟩
    · obtain rfl : [] = bytes := Option.some_inj.1 ((secondBytes_of_not_hasSeconds hprofile).symm.trans hbytes)
      exact encodeFrame_timeBody_noSeconds p

end Sys2Proof.Machine
end

section
/-! The session as a run of phases: what a phase sends, where it stops, and the status it ends with (R165 to R177). -/

namespace Sys2Proof.Machine

/-! ### Construction (R165) -/

/-- A session is constructed exactly from a supported model and a date and a time that can be sent (R165, R167, U6, log 20). -/
theorem construct_eq_some_iff {c : SessionConfig} {clock : Clock} {p : SessionInput} :
    SessionInput.construct c clock = some p ↔
      ∃ profile, selectModel c.model c.models = some profile ∧
        ((dateRequest p).isSome = true ∧ (timeRequest p).isSome = true) ∧
        p = ⟨profile, c.overrideAddress, clock.source c.clock, c.ctrlAddr, c.probeDeadline, c.ackDeadline, c.readTimeout⟩ := by
  cases hmodel : selectModel c.model c.models with
  | none => simp [SessionInput.construct, hmodel]
  | some profile =>
    simp only [SessionInput.construct, hmodel, Option.ite_none_right_eq_some, Bool.and_eq_true, Option.some.injEq,
      exists_eq_left']
    constructor <;> (rintro ⟨hsent, rfl⟩; exact ⟨hsent, rfl⟩)

/-- What a constructed session is given: the selected profile, the sourced time, and two requests that can be built. -/
theorem construct_spec {c : SessionConfig} {clock : Clock} {p : SessionInput} (h : SessionInput.construct c clock = some p) :
    selectModel c.model c.models = some p.profile ∧ p.time = clock.source c.clock ∧
      ∃ rd rt, dateRequest p = some rd ∧ timeRequest p = some rt := by
  obtain ⟨profile, hmodel, ⟨hdate, htime⟩, hp⟩ := construct_eq_some_iff.1 h
  obtain ⟨rd, hrd⟩ := Option.isSome_iff_exists.1 hdate
  obtain ⟨rt, hrt⟩ := Option.isSome_iff_exists.1 htime
  exact ⟨hp ▸ hmodel, hp ▸ rfl, rd, rt, hrd, hrt⟩

/-! ### Status (R177, R196) -/

theorem sessionStatus_of_configurationError {c : SessionConfig} {clock : Clock} (h : SessionInput.construct c clock = none)
    (opens : Bool) (ks : List Kind) : sessionStatus c clock opens ks = (some 1, []) := by
  rw [sessionStatus, h]
  rfl

theorem sessionStatus_of_transportUnavailable (c : SessionConfig) (clock : Clock) (ks : List Kind) :
    sessionStatus c clock false ks = (some 1, []) := by
  cases h : SessionInput.construct c clock with
  | none => exact sessionStatus_of_configurationError h false ks
  | some p =>
    rw [sessionStatus, h]
    rfl

theorem sessionStatus_of_construct {c : SessionConfig} {clock : Clock} {p : SessionInput}
    (h : SessionInput.construct c clock = some p) (ks : List Kind) :
    sessionStatus c clock true ks = (sessionResult p (sessionRun p .idle ks).1, (sessionRun p .idle ks).2) := by
  rw [sessionStatus, h]
  rfl

section
variable {p : SessionInput} {st : SessionState}

/-! ### Where a session cannot go on (log 20) -/

/-- A session is refused at its date or at its time, when that request cannot be built. -/
theorem sessionRefused_iff : sessionRefused p st = true ↔
    (st = .settingDate ∧ dateRequest p = none) ∨ (st = .settingTime ∧ timeRequest p = none) := by
  simp [sessionRefused]

theorem sessionResult_of_refused (h : sessionRefused p st = true) : sessionResult p st = some 1 := by
  rw [sessionResult, if_pos h]
  rfl

theorem sessionRequest_of_refused (h : sessionRefused p st = true) : sessionRequest p st = none := by
  rcases sessionRefused_iff.1 h with ⟨rfl, hdate⟩ | ⟨rfl, htime⟩
  · exact hdate
  · exact htime

/-- A session that has run its phase and sends no request where it stands has no transition. -/
theorem sessionStep_of_no_request {x : SessionRun} (hrequest : sessionRequest p x.state = none) (hend : x.host.program = []) :
    sessionStep p x = x := by
  simp [sessionStep, hend, hrequest]

/-! ### Terminal states (R171, R173, R175, R176) -/

/-- In a terminal state nothing is passed through, and nothing is sent. -/
theorem sessionAdvance_and_request_of_exit {n : Nat} (h : sessionExit st = some n) :
    sessionAdvance st = st ∧ sessionRequest p st = none := by
  cases st with
  | probedFail | dateFailed | done | timeFailed => exact ⟨rfl, rfl⟩
  | idle | probing | probedOk | settingDate | dateAcked | settingTime => exact nomatch h

/-- A terminal state is not a refused one, so its exit status is the result. -/
theorem sessionResult_of_exit {n : Nat} (h : sessionExit st = some n) : sessionResult p st = some n := by
  have hrefused : ¬ sessionRefused p st = true := by
    intro hr
    rcases sessionRefused_iff.1 hr with ⟨rfl, -⟩ | ⟨rfl, -⟩ <;> exact nomatch h
  rw [sessionResult, if_neg hrefused, h]

/-! ### A phase of a run (R168 to R175) -/

/-- A phase whose request is built sends it first and goes on from where its outcome leads. -/
theorem sessionRun_cons_of_request {r : Request} (h : sessionRequest p (sessionAdvance st) = some r) (k : Kind)
    (ks : List Kind) :
    sessionRun p st (k :: ks) =
      ((sessionRun p (sessionOutcome (sessionAdvance st) k) ks).1,
        r :: (sessionRun p (sessionOutcome (sessionAdvance st) k) ks).2) := by
  rw [sessionRun, h]

theorem sessionRun_cons_of_no_request (h : sessionRequest p (sessionAdvance st) = none) (k : Kind) (ks : List Kind) :
    sessionRun p st (k :: ks) = (sessionAdvance st, []) := by
  rw [sessionRun, h]

/-- From a terminal state a session goes nowhere and sends nothing, whatever outcomes are left. -/
theorem sessionRun_of_exit {n : Nat} (h : sessionExit st = some n) (ks : List Kind) : sessionRun p st ks = (st, []) := by
  obtain ⟨hadvance, hrequest⟩ := sessionAdvance_and_request_of_exit (p := p) h
  cases ks with
  | nil => rfl
  | cons k ks => rw [sessionRun_cons_of_no_request (hadvance.symm ▸ hrequest), hadvance]

/-- The probe is always sent; only DATA lets the session go on (R170, R171). -/
theorem sessionRun_idle_cons (k : Kind) (ks : List Kind) :
    sessionRun p .idle (k :: ks) =
      if k = .data then ((sessionRun p .probedOk ks).1, probeRequest p :: (sessionRun p .probedOk ks).2)
      else (.probedFail, [probeRequest p]) := by
  rw [sessionRun_cons_of_request (st := .idle) rfl]
  split_ifs with hk
  · rw [hk]
    rfl
  · rw [show sessionOutcome (sessionAdvance .idle) k = .probedFail from if_neg hk, sessionRun_of_exit (n := 2) rfl]

/-- After the probe a date that can be sent is sent; only ACK lets the session go on (R172, R173). -/
theorem sessionRun_probedOk_cons {rd : Request} (hdate : dateRequest p = some rd) (k : Kind) (ks : List Kind) :
    sessionRun p .probedOk (k :: ks) =
      if k = .ack then ((sessionRun p .dateAcked ks).1, rd :: (sessionRun p .dateAcked ks).2) else (.dateFailed, [rd]) := by
  rw [sessionRun_cons_of_request (st := .probedOk) hdate]
  split_ifs with hk
  · rw [hk]
    rfl
  · rw [show sessionOutcome (sessionAdvance .probedOk) k = .dateFailed from if_neg hk, sessionRun_of_exit (n := 3) rfl]

/-- After the date a time that can be sent is sent, and its outcome ends the session (R174 to R176). -/
theorem sessionRun_dateAcked_cons {rt : Request} (htime : timeRequest p = some rt) (k : Kind) (ks : List Kind) :
    sessionRun p .dateAcked (k :: ks) = (if k = .ack then .done else .timeFailed, [rt]) := by
  rw [sessionRun_cons_of_request (st := .dateAcked) htime]
  split_ifs with hk
  · rw [show sessionOutcome (sessionAdvance .dateAcked) k = .done from if_pos hk, sessionRun_of_exit (n := 0) rfl]
  · rw [show sessionOutcome (sessionAdvance .dateAcked) k = .timeFailed from if_neg hk, sessionRun_of_exit (n := 4) rfl]

/-! ### The whole session -/

/-- The table of R168 from end to end: each outcome that is not the wanted one is the last, and its phase gives the status. -/
theorem sessionRun_result_and_requests {rd rt : Request} (hdate : dateRequest p = some rd) (htime : timeRequest p = some rt)
    (k1 k2 k3 : Kind) :
    (sessionResult p (sessionRun p .idle [k1, k2, k3]).1, (sessionRun p .idle [k1, k2, k3]).2) =
      if k1 ≠ .data then (some 2, [probeRequest p])
      else if k2 ≠ .ack then (some 3, [probeRequest p, rd])
      else if k3 ≠ .ack then (some 4, [probeRequest p, rd, rt])
      else (some 0, [probeRequest p, rd, rt]) := by
  rw [sessionRun_idle_cons, sessionRun_probedOk_cons hdate, sessionRun_dateAcked_cons htime]
  by_cases hprobe : k1 = .data
  · by_cases hacked : k2 = .ack
    · by_cases hset : k3 = .ack
      · simp [hprobe, hacked, hset, sessionResult_of_exit (st := .done) (n := 0) rfl]
      · simp [hprobe, hacked, hset, sessionResult_of_exit (st := .timeFailed) (n := 4) rfl]
    · simp [hprobe, hacked, sessionResult_of_exit (st := .dateFailed) (n := 3) rfl]
  · simp [hprobe, sessionResult_of_exit (st := .probedFail) (n := 2) rfl]

/-- A session that comes to a request it cannot build stops before it, with status 1 and nothing more sent (log 20). -/
theorem sessionRun_cons_of_refused (h : sessionRefused p (sessionAdvance st) = true) (k : Kind) (ks : List Kind) :
    sessionResult p (sessionRun p st (k :: ks)).1 = some 1 ∧ (sessionRun p st (k :: ks)).2 = [] := by
  rw [sessionRun_cons_of_no_request (sessionRequest_of_refused h)]
  exact ⟨sessionResult_of_refused h, rfl⟩

end

/-- Settles O59: a constructed session can build its date and time requests, so the three outcomes decide where it ends; one that
cannot build a request is refused there, and no transition leaves a refused state. -/
theorem sessionSendsAndEndsByOutcome : Obligations.SessionSendsAndEndsByOutcome := by
  intro c clock opens ks k1 k2 k3
  refine ⟨?unsent, ?outcomes, ?noDate, ?noTime, ?stays⟩
  case unsent =>
    rintro (herror | rfl)
    · exact sessionStatus_of_configurationError herror opens ks
    · exact sessionStatus_of_transportUnavailable c clock ks
  case outcomes =>
    intro p hp
    obtain ⟨hmodel, htime, rd, rt, hrd, hrt⟩ := construct_spec hp
    refine ⟨hmodel, htime, rd, rt, hrd, hrt, ?_⟩
    rw [sessionStatus_of_construct hp]
    exact sessionRun_result_and_requests hrd hrt k1 k2 k3
  case noDate =>
    intro p k hdate
    obtain ⟨hresult, hsent⟩ := sessionRun_cons_of_refused (st := .probedOk) (sessionRefused_iff.2 (.inl ⟨rfl, hdate⟩)) k ks
    rw [sessionRun_idle_cons, if_pos rfl]
    exact ⟨hresult, congrArg _ hsent⟩
  case noTime =>
    intro p k rd hdate htime
    obtain ⟨hresult, hsent⟩ := sessionRun_cons_of_refused (st := .dateAcked) (sessionRefused_iff.2 (.inr ⟨rfl, htime⟩)) k ks
    rw [sessionRun_idle_cons, if_pos rfl, sessionRun_probedOk_cons hdate, if_pos rfl]
    exact ⟨hresult, congrArg (fun rest => [probeRequest p, rd] ++ rest) hsent⟩
  case stays =>
    intro p x hrefused hend
    exact sessionStep_of_no_request (sessionRequest_of_refused hrefused) hend

end Sys2Proof.Machine
end

section
/-! Raising an outcome (R191). -/

namespace Sys2Proof.Machine

/-- Settles O54: by what the outcome carries; an idle sequencer neither puts nor reads a byte. -/
theorem raiseWritesResultAndIdles : Obligations.RaiseWritesResultAndIdles := by
  intro s k
  refine ⟨rfl, fun _ => rfl, rfl, fun info => ?_⟩
  have ho : (raise k info s).opst = .idle := raise_opst k info s
  simp [State.txValid, State.rxReady, State.putting, State.reading, ho]

end Sys2Proof.Machine
end

section
/-! The block's own delays (R206, R234): what a tick, an event at the reader and a due step do in a block that spends time. -/

namespace Sys2Proof.Machine

theorem not_reading_of_due {s : State} {a : Due} (hdue : s.due = some a) : ¬ s.reading :=
  fun ⟨_, hnone⟩ => nomatch hdue.symm.trans hnone

/-! ### Ticks -/

/-- A tick that finds no read pending, or one that has counted no tick, is not measured by `RTCNT` (R234). -/
theorem tickLag_of_not_counting {s : State} (h : ¬ s.reading ∨ s.rtcnt = s.rdtmo) : tickLag s = tickDeadline s :=
  if_neg fun ⟨hreading, hrt⟩ => h.elim (· hreading) hrt

/-! ### Spans and `NoData` at the reader -/

theorem invocationReturns_of_lags {s : State} (r : ReadEnd) (hlags : s.lags = true) :
    invocationReturns r s = { s with due := some (.returned r) } := orLater_due _ _ s hlags

theorem spanComplete_heard_of_lags {s : State} (acc : List Byte) (hlags : s.lags = true) :
    spanComplete (s.heard acc) =
      { s.atReturn (spanEnd acc) false acc with due := some (.returned (spanEnd acc)) } := by
  rw [spanComplete_heard, invocationReturns_of_lags _ (by exact hlags)]

/-- A delimited span leaves the return of the invocation due (R98, R206). -/
theorem arrive_delimited_of_lags {s : State} {span : List Byte} (hlags : s.lags = true) (hfresh : s.readerFresh)
    (hplain : span.all plain = true) (hfits : span.length ≤ s.lmax) :
    arrive (Config.preamble :: Config.preamble :: (span ++ [Config.term])) s =
      { s.atReturn (spanEnd span) false span with due := some (.returned (spanEnd span)) } := by
  obtain ⟨hreading, hrs, hblen, hrxq⟩ := hfresh
  have htake := takeBytes_delimited span [] { s with rxq := Config.preamble :: Config.preamble :: (span ++ [Config.term]) }
    hreading hrs hblen hplain hfits
  rw [spanComplete_heard_of_lags span (by exact hlags), takeBytes_nil] at htake
  simp only [arrive, takeHeld, hrxq, List.nil_append]
  rw [htake]
  simp only [State.atReturn, State.heard, hrxq]

theorem isFrame_of_encode {i : Instr} {bytes : List Byte} (h : encode i = .wire bytes) : isFrame i = true := by
  cases i with
  | nop | send | rdf | xact | cmdReserved => cases h
  | _ => rfl

theorem exec_frame_of_lags {s : State} {i : Instr} {dst src : Byte} {body : List Byte} (hlags : s.lags = true)
    (hfresh : s.readerFresh) (hwf : i.wellFormed = true) (hencode : encode i = .wire (encodeFrame dst src body))
    (hfits : body.length + 2 ≤ s.lmax) :
    exec i s = .next { s.heard (dst :: src :: body) with due := some (.returned (.frame ⟨dst, src, body⟩)) } := by
  have hframe := isFrame_of_encode hencode
  have hbytes : i.wireBytes = encodeFrame dst src body := Image.wire.inj ((encode_of_isFrame hframe).symm.trans hencode)
  have hplain := span_plain_of_wellFormed hwf hframe hbytes
  rw [exec_frame hframe, hbytes, encodeFrame_eq_delimited, arrive_delimited_of_lags hlags hfresh hplain hfits,
    ← s.atReturn_frame]
  rfl

theorem exec_undersized_of_lags {s : State} {x : Option Byte} (hlags : s.lags = true) (hfresh : s.readerFresh)
    (hwf : (Instr.undersized x).wellFormed = true) (hlmax : 1 ≤ s.lmax) :
    exec (.undersized x) s =
      .next { s.heard x.toList with malcnt := satInc s.malcnt, due := some (.returned .malformed) } := by
  obtain ⟨hplain, hfits, hend⟩ : x.toList.all plain = true ∧ x.toList.length ≤ s.lmax ∧ spanEnd x.toList = .malformed := by
    cases x with
    | none => exact ⟨rfl, Nat.zero_le _, rfl⟩
    | some b => exact ⟨by simpa [Instr.wellFormed] using hwf, hlmax, rfl⟩
  have harrive : arrive (encodeUndersized x) s = _ := arrive_delimited_of_lags hlags hfresh hplain hfits
  rw [exec_frame rfl, Instr.wireBytes, harrive, hend]
  simp [State.atReturn, State.heard]

/-- A read that has run out leaves the return of the invocation due (R42, R206). -/
theorem quietCycle_of_lags {s : State} (hlags : s.lags = true) (h : s.reading ∧ s.rtcnt = 0 ∧ s.rxq = []) :
    quietCycle s = { s with due := some (.returned .timeout) } := by
  rw [quietCycle, if_pos ((expired_iff s).2 h), readNoData, invocationReturns_of_lags _ hlags]

theorem tickAll_of_lags {s : State} (hlags : s.lags = true) (h : s.reading ∧ s.rtcnt = 0 ∧ s.rxq = []) :
    tickAll s = tickDeadline { s with due := some (.returned .timeout) } := by
  rw [tickAll, quietCycle_of_lags hlags h, tickRead_of_not_reading (not_reading_of_due (by rfl))]

/-! ### The due step -/

theorem perform_rxq (a : Due) (s : State) : (perform a s).rxq = s.rxq := by
  cases a with
  | returned r => exact invocationEnd_rxq r s
  | check => rcases deadlineCheck_cases s with ⟨-, h⟩ | ⟨-, -, h⟩ | ⟨-, -, h⟩ <;> rw [perform, h] <;> rfl
  | sent => rfl

/-- With no byte held the due step is all there is. -/
theorem step_settle_of_none_held {s : State} {a : Due} {es : List Stimulus} (hinbox : s.inbox = .settle :: es)
    (hdue : s.due = some a) (hrxq : s.rxq = []) : step s = .next (perform a { s with due := none, inbox := es }) := by
  have hheld : (perform a { s with due := none, inbox := es }).rxq = [] := (perform_rxq a _).trans hrxq
  rw [step_of_fetch_none hinbox rfl, deliver, settle_some a { s with inbox := es } hdue, takeHeld, hheld,
    takeBytes_nil_of_none_held hheld]

section
variable {s : State} {es : List Stimulus} (hinbox : s.inbox = .settle :: es) (hrxq : s.rxq = [])
include hinbox hrxq

/-- The due deadline check sees `DLCNT` as the delay has left it (R132). -/
theorem step_settle_check (hdue : s.due = some .check) :
    (s.dlcnt ≠ 0 → step s = .next { s with
      opst := .rd, rs := .hunt1, blen := 0, rtcnt := s.rdtmo, due := none, inbox := es }) ∧
    (s.dlcnt = 0 → s.status.uxseen = true →
      step s = .next (raise .unexpected .recorded { s with due := none, inbox := es })) ∧
    (s.dlcnt = 0 → s.status.uxseen = false →
      step s = .next (raise .timeout .nothing { s with due := none, inbox := es })) := by
  rw [step_settle_of_none_held hinbox hdue hrxq, perform]
  refine ⟨fun hd => ?goesOn, fun hd hux => ?unexpected, fun hd hux => ?timeout⟩
  case goesOn =>
    rw [deadlineCheck_before (by exact hd)]
    rfl
  case unexpected => rw [deadlineCheck_after (by exact hd), if_pos hux]
  case timeout => rw [deadlineCheck_after (by exact hd), if_neg (by simp [hux])]

theorem step_settle_rdf {r : ReadEnd} (hc : s.curop = .rdf) (hdue : s.due = some (.returned r)) :
    step s = .next (rdfInvocationEnd r { s with due := none, inbox := es }) := by
  rw [step_settle_of_none_held hinbox hdue hrxq]
  simp only [perform, invocationEnd, hc]

theorem step_settle_xact {r : ReadEnd} (hc : s.curop = .xact) (hdue : s.due = some (.returned r)) :
    step s = .next (xactInvocationEnd r { s with due := none, inbox := es }) := by
  rw [step_settle_of_none_held hinbox hdue hrxq]
  simp only [perform, invocationEnd, hc]

/-- A terminal frame that was due ends the transaction; DATA alone carries it (R116, R130). -/
theorem step_settle_terminal {f : Frame} {k : Kind} (hc : s.curop = .xact) (hdue : s.due = some (.returned (.frame f)))
    (hterm : terminal (classify f) s.expect = true) (hk : outcomeOf (classify f) = some k) :
    step s = .next (raise k (if k = .data then .frame f else .nothing) { s with due := none, inbox := es }) := by
  rw [step_settle_xact hinbox hrxq hc hdue, xactInvocationEnd, if_pos (by exact hterm), raiseTerminal_of_outcome hk]
  rcases outcome_of_terminal hk with ⟨rfl, -⟩ | ⟨hdata, hcarries⟩
  · rfl
  · rw [if_neg hdata, hcarries, if_neg Bool.false_ne_true]

/-- Any other frame is recorded, and the deadline check is due in its turn (R131, R206). -/
theorem step_settle_unselected {f : Frame} (hlags : s.lags = true) (hc : s.curop = .xact)
    (hdue : s.due = some (.returned (.frame f))) (hterm : terminal (classify f) s.expect = false) :
    step s = .next { recordUnexpected f { s with due := none, inbox := es } with due := some .check } := by
  rw [step_settle_xact hinbox hrxq hc hdue, xactInvocationEnd, if_neg (by simp [hterm]), checkNext,
    orLater_due _ _ _ (by exact hlags)]

theorem step_settle_no_frame {r : ReadEnd} (hlags : s.lags = true) (hc : s.curop = .xact)
    (hr : r = .malformed ∨ r = .timeout) (hdue : s.due = some (.returned r)) :
    step s = .next { s with due := some .check, inbox := es } := by
  rw [step_settle_xact hinbox hrxq hc hdue]
  rcases hr with rfl | rfl <;> rw [xactInvocationEnd, checkNext, orLater_due _ _ _ (by exact hlags)]

end

end Sys2Proof.Machine
end

section
/-! A block that spends time of its own does, once its due steps are taken, what a block that spends none does (R206, R234). -/

namespace Sys2Proof.Machine

/-! ### The same state in a block that spends time -/

/-- `s` in a block that spends time of its own, with the bytes `q` in the transport. -/
def State.lagged (s : State) (q : List Byte) : State := { s with lags := true, rxq := q }

theorem raise_lagged (k : Kind) (info : Info) (s : State) (q : List Byte) :
    raise k info (s.lagged q) = (raise k info s).lagged q := by
  cases info <;> rfl

theorem deadlineCheck_lagged (s : State) (q : List Byte) : deadlineCheck (s.lagged q) = (deadlineCheck s).lagged q := by
  by_cases hd : s.dlcnt = 0
  · rw [deadlineCheck_after hd, deadlineCheck_after (by exact hd), raise_lagged, raise_lagged]
    exact (apply_ite (State.lagged · q) _ _ _).symm
  · rw [deadlineCheck_before hd, deadlineCheck_before (by exact hd)]
    rfl

theorem raiseTerminal_lagged (f : Frame) (s : State) (q : List Byte) :
    raiseTerminal f (s.lagged q) = (raiseTerminal f s).lagged q := by
  unfold raiseTerminal
  cases outcomeOf (classify f) with
  | none => rfl
  | some k => exact raise_lagged k _ s q

theorem rdfInvocationEnd_lagged (r : ReadEnd) (s : State) (q : List Byte) :
    rdfInvocationEnd r (s.lagged q) = (rdfInvocationEnd r s).lagged q := by
  cases r with
  | frame f => exact raise_lagged .frame (.frame f) s q
  | malformed => exact raise_lagged .malformed .nothing s q
  | timeout => exact raise_lagged .timeout .nothing s q

/-! ### No step comes to be due in a block that spends no time -/

theorem raise_prompt {s : State} (k : Kind) (info : Info) (h : s.prompt) : (raise k info s).prompt := by
  cases info <;> exact h

theorem deadlineCheck_prompt {s : State} (h : s.prompt) : (deadlineCheck s).prompt := by
  rcases deadlineCheck_cases s with ⟨-, e⟩ | ⟨-, -, e⟩ | ⟨-, -, e⟩ <;> rw [e]
  · exact h
  · exact raise_prompt _ _ h
  · exact raise_prompt _ _ h

theorem raiseTerminal_prompt {s : State} (f : Frame) (h : s.prompt) : (raiseTerminal f s).prompt := by
  unfold raiseTerminal
  cases outcomeOf (classify f) with
  | none => exact h
  | some k => exact raise_prompt k _ h

theorem rdfInvocationEnd_prompt {s : State} (r : ReadEnd) (h : s.prompt) : (rdfInvocationEnd r s).prompt := by
  cases r <;> exact raise_prompt _ _ h

/-! ### Finitely many due steps -/

/-- Finitely many due steps lead from `t` to what `s` is in a block that spends time. -/
def SettlesTo (t s : State) : Prop := ∃ n : Nat, settle^[n] t = { s with lags := true }

theorem SettlesTo.refl (s : State) : SettlesTo { s with lags := true } s := ⟨0, rfl⟩

theorem SettlesTo.of_settle {t s : State} (h : SettlesTo (settle t) s) : SettlesTo t s := by
  obtain ⟨n, hn⟩ := h
  exact ⟨n + 1, hn⟩

/-- While a step is due the bytes wait in the transport; they are taken once it is (R43, R206). -/
theorem settlesTo_of_due {s t : State} {a : Due} {bytes q : List Byte} (hdue : s.due = none)
    (h : SettlesTo (takeBytes bytes (perform a (s.lagged bytes))) t) :
    SettlesTo (takeBytes bytes { s.lagged q with due := some a }) t := by
  apply SettlesTo.of_settle
  rw [takeBytes_waits _ _ (not_reading_of_due (by rfl)), settle_some a _ (by rfl), takeHeld, perform_rxq]
  have hclear : { s.lagged bytes with due := none } = s.lagged bytes := by rw [State.lagged, ← hdue]
  rw [← hclear] at h
  exact h

/-- Whatever bytes the transport held before, a block that spends time takes the bytes as one that spends none does, in the end. -/
def TakesInTheEnd (bytes : List Byte) : Prop :=
  ∀ (s : State) (q : List Byte), s.prompt → SettlesTo (takeBytes bytes (s.lagged q)) (takeBytes bytes s)

theorem takesInTheEnd_nil : TakesInTheEnd [] := fun s _ _ => SettlesTo.refl (takeBytes [] s)

/-! ### What follows a returned invocation -/

section
variable {bytes : List Byte} (hbytes : TakesInTheEnd bytes) {s : State} (hprompt : s.prompt) (q : List Byte)
include hbytes hprompt

theorem checkNext_settlesTo : SettlesTo (takeBytes bytes (checkNext (s.lagged q))) (takeBytes bytes (checkNext s)) := by
  have ⟨hlags, hdue⟩ := hprompt
  rw [checkNext, checkNext, orLater_now _ _ s hlags, orLater_due _ _ (s.lagged q) rfl]
  apply settlesTo_of_due hdue
  rw [perform, deadlineCheck_lagged]
  exact hbytes _ _ (deadlineCheck_prompt hprompt)

theorem xactInvocationEnd_settlesTo (r : ReadEnd) :
    SettlesTo (takeBytes bytes (xactInvocationEnd r (s.lagged q))) (takeBytes bytes (xactInvocationEnd r s)) := by
  cases r with
  | malformed => exact checkNext_settlesTo hbytes hprompt q
  | timeout => exact checkNext_settlesTo hbytes hprompt q
  | frame f =>
    rw [xactInvocationEnd, xactInvocationEnd]
    by_cases hterm : terminal (classify f) s.expect = true
    · rw [if_pos hterm, if_pos (by exact hterm), raiseTerminal_lagged]
      exact hbytes _ _ (raiseTerminal_prompt f hprompt)
    · rw [if_neg hterm, if_neg (by exact hterm)]
      exact checkNext_settlesTo hbytes (s := recordUnexpected f s) hprompt q

theorem invocationEnd_settlesTo (r : ReadEnd) :
    SettlesTo (takeBytes bytes (invocationEnd r (s.lagged q))) (takeBytes bytes (invocationEnd r s)) := by
  have hcurop : (s.lagged q).curop = s.curop := rfl
  rw [invocationEnd, invocationEnd, hcurop]
  cases s.curop with
  | none => exact hbytes s q hprompt
  | send => exact hbytes s q hprompt
  | rdf =>
    simp only [rdfInvocationEnd_lagged]
    exact hbytes _ _ (rdfInvocationEnd_prompt r hprompt)
  | xact => exact xactInvocationEnd_settlesTo hbytes hprompt q r

theorem invocationReturns_settlesTo (r : ReadEnd) :
    SettlesTo (takeBytes bytes (invocationReturns r (s.lagged q))) (takeBytes bytes (invocationReturns r s)) := by
  rw [invocationReturns_of_lags (s := s.lagged q) r rfl, invocationReturns, orLater_now _ _ s hprompt.1]
  exact settlesTo_of_due hprompt.2 (invocationEnd_settlesTo hbytes hprompt bytes r)

/-! ### The reader -/

theorem spanComplete_settlesTo :
    SettlesTo (takeBytes bytes (spanComplete (s.lagged q))) (takeBytes bytes (spanComplete s)) := by
  have hspan : (s.lagged q).span = s.span := rfl
  rw [spanComplete_eq, spanComplete_eq, hspan]
  split_ifs
  · exact invocationReturns_settlesTo hbytes (s := countMalformed s) hprompt q _
  · exact invocationReturns_settlesTo hbytes hprompt q _

theorem readByte_settlesTo (b : Byte) :
    SettlesTo (takeBytes bytes (readByte b (s.lagged q))) (takeBytes bytes (readByte b s)) := by
  cases hrs : s.rs with
  | hunt1 =>
    rw [readByte_hunt1 b hrs, readByte_hunt1 b (by exact hrs)]
    exact hbytes { s with rs := if b = Config.preamble then .hunt2 else .hunt1, rtcnt := s.rdtmo } q hprompt
  | hunt2 =>
    rw [readByte_hunt2 b hrs, readByte_hunt2 b (by exact hrs)]
    exact hbytes { s with rs := if b = Config.preamble then .accum else .hunt1, rtcnt := s.rdtmo } q hprompt
  | accum =>
    by_cases hb : b = Config.term
    · rw [hb, readByte_term hrs, readByte_term (by exact hrs)]
      exact spanComplete_settlesTo hbytes hprompt q
    by_cases hroom : s.blen < s.lmax
    · rw [readByte_store hrs hb hroom, readByte_store (by exact hrs) hb (by exact hroom)]
      exact hbytes (startRead (accumulate b s)) q hprompt
    · rw [readByte_overflow hrs hb (Nat.not_lt.1 hroom), readByte_overflow (by exact hrs) hb (by exact Nat.not_lt.1 hroom)]
      exact invocationReturns_settlesTo hbytes
        (s := countMalformed { s with status := { s.status with ovf := true } }) hprompt q .malformed

end

theorem takesInTheEnd (bytes : List Byte) : TakesInTheEnd bytes := by
  induction bytes with
  | nil => exact takesInTheEnd_nil
  | cons b bytes ih =>
    intro s q hprompt
    by_cases hreading : s.reading
    · rw [takeBytes_cons b bytes s hreading, takeBytes_cons b bytes (s.lagged q) hreading]
      exact readByte_settlesTo ih hprompt q b
    · rw [takeBytes_waits _ s hreading, takeBytes_waits _ (s.lagged q) hreading]
      exact SettlesTo.refl { s with rxq := b :: bytes }

/-! ### Received bytes, a quiet cycle, an accepted byte -/

theorem leaveTx_of_send {s : State} (hc : s.curop = .send) : leaveTx s = orLater .sent raiseSent s := by rw [leaveTx, hc]

theorem leaveTx_of_xact {s : State} (hc : s.curop = .xact) : leaveTx s = takeHeld (startInvocation s) := by rw [leaveTx, hc]

theorem leaveTx_of_neither {s : State} (hc : s.curop = .none ∨ s.curop = .rdf) : leaveTx s = s := by
  rcases hc with hc | hc <;> rw [leaveTx, hc]

section
variable {s : State} (hprompt : s.prompt)
include hprompt

theorem takeHeld_settlesTo : SettlesTo (takeHeld { s with lags := true }) (takeHeld s) := takesInTheEnd s.rxq s s.rxq hprompt

theorem arrive_settlesTo (bytes : List Byte) : SettlesTo (arrive bytes { s with lags := true }) (arrive bytes s) :=
  takeHeld_settlesTo (s := { s with rxq := s.rxq ++ bytes }) hprompt

theorem quietCycle_settlesTo : SettlesTo (quietCycle { s with lags := true }) (quietCycle s) := by
  by_cases hrun : s.reading ∧ s.rtcnt = 0 ∧ s.rxq = []
  · have ⟨_, _, hrxq⟩ := hrun
    rw [quietCycle_of_expired hrun hprompt.1, quietCycle_of_lags rfl (by exact hrun)]
    have hsettles := settlesTo_of_due (a := .returned .timeout) (q := s.rxq) hprompt.2
      (invocationEnd_settlesTo takesInTheEnd_nil hprompt [] .timeout)
    rwa [takeBytes_nil_of_none_held ((invocationEnd_rxq .timeout s).trans hrxq),
      takeBytes_nil_of_none_held (by exact hrxq)] at hsettles
  · rw [quietCycle_of_not_expired hrun, quietCycle_of_not_expired (by exact hrun)]
    exact SettlesTo.refl s

theorem raiseSent_settlesTo : SettlesTo (orLater .sent raiseSent { s with lags := true }) (orLater .sent raiseSent s) := by
  rw [orLater_due _ _ { s with lags := true } rfl, orLater_now _ _ s hprompt.1]
  refine ⟨1, ?_⟩
  rw [Function.iterate_one, settle_some .sent _ rfl, takeHeld, takeBytes_waits _ _ (by nofun), ← hprompt.2]
  rfl

theorem leaveTx_settlesTo : SettlesTo (leaveTx { s with lags := true }) (leaveTx s) := by
  rcases leaveTx_cases s with ⟨hc, e⟩ | ⟨hc, e⟩ | ⟨hc, e⟩ <;> rw [e]
  · rw [leaveTx_of_send (by exact hc)]
    exact raiseSent_settlesTo hprompt
  · rw [leaveTx_of_xact (by exact hc)]
    exact takeHeld_settlesTo (s := startInvocation s) hprompt
  · rw [leaveTx_of_neither (by exact hc)]
    exact SettlesTo.refl s

theorem txAccept_settlesTo : SettlesTo (txAccept { s with lags := true }) (txAccept s) := by
  have hdata : ({ s with lags := true } : State).txData = s.txData := rfl
  unfold txAccept
  rw [hdata]
  cases s.txData with
  | none => exact SettlesTo.refl s
  | some b =>
    simp only [length_txFrame]
    split_ifs
    · exact leaveTx_settlesTo (s := putByte b s) hprompt
    · exact SettlesTo.refl (putByte b s)

end

/-! ### The obligation -/

/-- Settles O56: the events by their lemmas for a block that spends time; that it ends where a block that spends none does, by
induction on the bytes it takes (`takesInTheEnd`), since every due step gives the bytes that waited for it back to the reader. -/
theorem lagTickSparesReadTimeout : Obligations.LagTickSparesReadTimeout := by
  refine ⟨?lagTick, ?frame, ?undersized, ?noData, ?settles, ?inTheEnd⟩
  case lagTick =>
    intro s es hinbox hspared
    rw [step_transport rfl hinbox, deliver, tickLag_of_not_counting (by exact hspared), tickDeadline_eq]
  case frame => exact fun s i dst src body hlags hfresh hwf hencode hfits => exec_frame_of_lags hlags hfresh hwf hencode hfits
  case undersized => exact fun s x hlags hfresh hwf hlmax => exec_undersized_of_lags hlags hfresh hwf hlmax
  case noData =>
    intro s es hlags hreading hrt hrxq
    refine ⟨fun hinbox => ?quiet, fun hinbox => ?tick⟩
    case quiet =>
      rw [step_transport rfl hinbox, deliver,
        quietCycle_of_lags (s := { s with inbox := es }) hlags ⟨hreading, hrt, hrxq⟩]
    case tick =>
      rw [step_transport rfl hinbox, deliver,
        tickAll_of_lags (s := { s with inbox := es }) hlags ⟨hreading, hrt, hrxq⟩, tickDeadline_eq]
  case settles =>
    intro s es hinbox
    refine ⟨fun hdue => ?none, fun hdue hrxq => ?sent, fun hdue hrxq => ?check, fun hc hrxq => ?rdf, fun hc hrxq => ?xact⟩
    case none => rw [step_of_fetch_none hinbox rfl, deliver, settle_none _ (by exact hdue)]
    case sent => exact step_settle_of_none_held hinbox hdue hrxq
    case check => exact step_settle_check hinbox hrxq hdue
    case rdf =>
      exact ⟨fun f hdue => step_settle_rdf hinbox hrxq hc hdue, fun hdue => step_settle_rdf hinbox hrxq hc hdue,
        fun hdue => step_settle_rdf hinbox hrxq hc hdue⟩
    case xact =>
      exact ⟨fun f k hdue hterm hk => step_settle_terminal hinbox hrxq hc hdue hterm hk,
        fun f hlags hdue hterm => step_settle_unselected hinbox hrxq hlags hc hdue hterm,
        fun r hlags hr hdue => step_settle_no_frame hinbox hrxq hlags hc hr hdue⟩
  case inTheEnd =>
    intro s e hprompt he
    rcases he with ⟨bytes, rfl⟩ | rfl | rfl
    · exact arrive_settlesTo hprompt bytes
    · exact quietCycle_settlesTo hprompt
    · exact txAccept_settlesTo hprompt

end Sys2Proof.Machine
end

section
/-! The reset input during anything: the block restarts, the build and the environment stay (R220, R221, R43). -/

namespace Sys2Proof.Machine

/-- Settles O3: the reset input fetches no instruction, so the step is `resetBlock` of the state behind it (`step_reset`), whatever
command runs and whatever the transport holds; the rest compares `resetBlock`'s fields with the stated ones. -/
theorem resetAbandonsCommandAndKeepsTransport : Obligations.ResetAbandonsCommandAndKeepsTransport := by
  intro s es hinbox
  rw [step_reset hinbox, resetBlock]

end Sys2Proof.Machine
end
